-- ==== Sys2Proof/Word.lean ====
section
/-! DEFINITION. The word types of the HSFC transform engine.

Every data register is 32 bits wide (00_scope.md R7); the fields of a command word and the byte lanes of
a bus word are 8 bits wide (30_encoding.md R81, 20_memory.md R64); a register's offset in the 64-byte
window has 6 bits (10_state.md R20). -/

namespace Sys2Proof

/-- A 32-bit register value or command word (00_scope.md R7). -/
abbrev Word := BitVec 32

/-- An 8-bit field of a command word, or one byte lane of a register word. -/
abbrev Byte := BitVec 8

/-- A byte offset inside the 64-byte register window, 0x00 to 0x3F (10_state.md R20, 20_memory.md R60). -/
abbrev Offset := BitVec 6

end Sys2Proof
end

