-- ==== Sys2Proof/Config.lean ====
section
/-! DEFINITION. What an implementation or platform fixes and the spec does not: the window's base address
(00_scope.md R8, 20_memory.md R63). CMD_LATENCY, the other open parameter of 00_scope.md R8, is no number here:
`Machine.State.inputs` ranges over every choice of it (log 1, log 3). -/

namespace Sys2Proof

/-- Which 64-byte block of the host's address space holds the window: the platform's choice, left free. -/
opaque Config.baseBlock : Nat

/-- BASE, the host address of register offset 0. It is 64-byte aligned by construction (20_memory.md R63). -/
def Config.base : Nat := 64 * Config.baseBlock

end Sys2Proof
end

