-- ==== Sys2Proof/Syntax.lean ====
section
/-! DEFINITION. The twelve commands (30_encoding.md R83), one constructor per row of the opcode table.

`n` and `p` are the integers that 30_encoding.md R82 assembles from NDIM and PREC; the eight commands that
ignore those fields (R86) carry none (log 13). -/

namespace Sys2Proof

/-- The whole command set (30_encoding.md R83, R94). -/
inductive Instr where
  /-- NOP, OPC 0x00 (43_walk.md R180). -/
  | nop
  /-- GRAY, OPC 0x01 (40_gray.md R104). -/
  | gray
  /-- GINV, OPC 0x02 (40_gray.md R105). -/
  | ginv
  /-- GNEXT, OPC 0x03 (40_gray.md R106). -/
  | gnext
  /-- GRST, OPC 0x04 (40_gray.md R107). -/
  | grst
  /-- GLOAD, OPC 0x05 (40_gray.md R108). -/
  | gload
  /-- SKIL n, p, OPC 0x10 (41_skilling.md R136). -/
  | skil (n p : Int)
  /-- DEC n, p, OPC 0x20 (42_codec.md R164). -/
  | dec (n p : Int)
  /-- ENC n, p, OPC 0x21 (42_codec.md R165). -/
  | enc (n p : Int)
  /-- WSTART n, p, OPC 0x30 (43_walk.md R181). -/
  | wstart (n p : Int)
  /-- WSTEP, OPC 0x31 (43_walk.md R182). -/
  | wstep
  /-- WSTOP, OPC 0x32 (43_walk.md R183). -/
  | wstop
deriving DecidableEq, Repr

/-- Why a sequence of bytes is no command. The first two are both reported as IllegalCommand
(60_exceptions.md R206); the third cannot arise for a CMD write, which is one whole word (30_encoding.md R80). -/
inductive DecodeError where
  /-- The reserved byte RSV is not 0 (30_encoding.md R84). -/
  | reservedByte (rsv : Byte)
  /-- The opcode is none of the twelve (30_encoding.md R85). -/
  | unassignedOpcode (opcode : Byte)
  /-- Fewer than the four bytes of a word were given. -/
  | truncated
deriving DecidableEq, Repr

end Sys2Proof
end

