-- ==== Sys2Proof/WellFormed.lean ====
section
/-! DEFINITION. Which commands can be encoded: n and p must fit the two's-complement bytes NDIM and PREC
(30_encoding.md R82, R92; 93_implementation_defined.md I9 says that other values are refused, as they cannot
be encoded). -/

namespace Sys2Proof

/-- The range of an 8-bit two's-complement field (30_encoding.md R82). -/
def fitsField (x : Int) : Bool := decide (-128 ≤ x) && decide (x ≤ 127)

/-- A command that the format of 30_encoding.md R92 can write. -/
def Instr.wellFormed : Instr → Bool
  | .nop => true
  | .gray => true
  | .ginv => true
  | .gnext => true
  | .grst => true
  | .gload => true
  | .skil n p => fitsField n && fitsField p
  | .dec n p => fitsField n && fitsField p
  | .enc n p => fitsField n && fitsField p
  | .wstart n p => fitsField n && fitsField p
  | .wstep => true
  | .wstop => true

end Sys2Proof
end

