-- ==== Sys2Proof/Decode.lean ====
section
/-! DEFINITION. Decoding and encoding of command words (30_encoding.md R80-R92), and the little-endian byte
lanes of a bus word (20_memory.md R64). -/

namespace Sys2Proof

/-- OPC, bits 7:0 of a command word (30_encoding.md R81). -/
def opcField (cw : Word) : Byte := cw.extractLsb' 0 8

/-- NDIM, bits 15:8 (30_encoding.md R81). -/
def ndimField (cw : Word) : Byte := cw.extractLsb' 8 8

/-- PREC, bits 23:16 (30_encoding.md R81). -/
def precField (cw : Word) : Byte := cw.extractLsb' 16 8

/-- RSV, bits 31:24 (30_encoding.md R81). -/
def rsvField (cw : Word) : Byte := cw.extractLsb' 24 8

/-- `sext_8`: an 8-bit field read as a two's-complement integer (00_scope.md R12). -/
def sext8 (b : Byte) : Int := b.toInt

/-- The dispatch on OPC (30_encoding.md R83, R91), once RSV is known to be 0. -/
def decodeOpcode (opcode : Byte) (n p : Int) : Except DecodeError Instr :=
  match opcode.toNat with
  | 0x00 => .ok .nop
  | 0x01 => .ok .gray
  | 0x02 => .ok .ginv
  | 0x03 => .ok .gnext
  | 0x04 => .ok .grst
  | 0x05 => .ok .gload
  | 0x10 => .ok (.skil n p)
  | 0x20 => .ok (.dec n p)
  | 0x21 => .ok (.enc n p)
  | 0x30 => .ok (.wstart n p)
  | 0x31 => .ok .wstep
  | 0x32 => .ok .wstop
  | _ => .error (.unassignedOpcode opcode)

/-- `DecodeCmd` (30_encoding.md R91): total, and RSV is checked before OPC. -/
def decode (cw : Word) : Except DecodeError Instr :=
  if rsvField cw ≠ 0#8 then .error (.reservedByte (rsvField cw))
  else decodeOpcode (opcField cw) (sext8 (ndimField cw)) (sext8 (precField cw))

/-- Byte lane `j` of a register word carries bits 8j+7..8j (20_memory.md R64). -/
def byteLane (v : Word) (j : Nat) : Byte := v.extractLsb' (8 * j) 8

/-- The word whose byte lanes 0, 1, 2 and 3 are the four bytes (20_memory.md R64). -/
def wordOfLanes (b0 b1 b2 b3 : Byte) : Word := b3 ++ b2 ++ b1 ++ b0

/-- The four byte lanes of a word, lane 0 (the lowest host address) first. -/
def lanesOfWord (v : Word) : List Byte := [byteLane v 0, byteLane v 1, byteLane v 2, byteLane v 3]

/-- Decoding bytes as a byte-addressed bus carries them: one whole word, then the bytes that are left. -/
def decodeBytes : List Byte → Except DecodeError (Instr × List Byte)
  | b0 :: b1 :: b2 :: b3 :: rest => (decode (wordOfLanes b0 b1 b2 b3)).map (fun i => (i, rest))
  | _ => .error .truncated

/-- The opcode of each command (30_encoding.md R83). -/
def opcodeOf : Instr → Byte
  | .nop => 0x00#8
  | .gray => 0x01#8
  | .ginv => 0x02#8
  | .gnext => 0x03#8
  | .grst => 0x04#8
  | .gload => 0x05#8
  | .skil _ _ => 0x10#8
  | .dec _ _ => 0x20#8
  | .enc _ _ => 0x21#8
  | .wstart _ _ => 0x30#8
  | .wstep => 0x31#8
  | .wstop => 0x32#8

/-- The pair (n, p) that the assembler writes into NDIM and PREC: 0, 0 for the commands without it
(30_encoding.md R92). -/
def fieldsOf : Instr → Int × Int
  | .nop => (0, 0)
  | .gray => (0, 0)
  | .ginv => (0, 0)
  | .gnext => (0, 0)
  | .grst => (0, 0)
  | .gload => (0, 0)
  | .skil n p => (n, p)
  | .dec n p => (n, p)
  | .enc n p => (n, p)
  | .wstart n p => (n, p)
  | .wstep => (0, 0)
  | .wstop => (0, 0)

/-- The assembler's word: OPC, then n and p as two's-complement bytes, then RSV = 0 (30_encoding.md R92). -/
def encode (i : Instr) : Word :=
  0#8 ++ BitVec.ofInt 8 (fieldsOf i).2 ++ BitVec.ofInt 8 (fieldsOf i).1 ++ opcodeOf i

/-- The instruction read from an opcode-table word: its bits laid out in byte lanes, lowest address first, and
given to `decodeBytes` (log 15). Bits at and above `nbits` are 0. -/
def decodeTableWord (nbits w : Nat) : Option Instr :=
  match decodeBytes (lanesOfWord (BitVec.ofNat 32 (w % 2 ^ nbits))) with
  | .ok (i, _) => some i
  | .error _ => none

end Sys2Proof
end

