-- ==== Sys2Proof/Machine/State.lean ====
section
/-! DEFINITION. The state of the engine (10_state.md R37), the environment's part of a run (20_memory.md R67),
the named stops, and the state after reset (70_reset_and_hazards.md R241). -/

namespace Sys2Proof.Machine

/-- PEND when it is not empty: the accepted command word and the operands at acceptance (10_state.md R30). -/
structure Pending where
  /-- the accepted command word -/
  cw : Word
  /-- OPA at acceptance -/
  a : Word
  /-- OPB at acceptance -/
  b : Word
  /-- OPC at acceptance -/
  c : Word
deriving DecidableEq, Repr

/-- The engine's state: the record of 10_state.md R37, field by field, and nothing else. ID is a constant and IRQ
a function of this record (R21, R31). -/
structure Engine where
  /-- CTRL.CIE, completion interrupt enable (R22) -/
  cie : Bool
  /-- CTRL.EIE, error interrupt enable (R22) -/
  eie : Bool
  /-- STATUS.BUSY, a command is pending (R23) -/
  busy : Bool
  /-- STATUS.CC, a command has completed; sticky (R23) -/
  cc : Bool
  /-- STATUS.ERR, the last completed command failed (R23) -/
  err : Bool
  /-- STATUS.DONE, a walk has produced its last vertex; sticky (R23) -/
  done : Bool
  /-- STATUS.ACTIVE, a walk is active (R23) -/
  active : Bool
  /-- STATUS.WRAP, a GNEXT has wrapped GCNT; sticky (R23) -/
  wrap : Bool
  /-- STATUS.OVR, a CMD write was dropped; sticky (R23) -/
  ovr : Bool
  /-- STATUS.ECODE, the error code of the last completed command (R23) -/
  ecode : BitVec 4
  /-- CMD, the last accepted command word (R25) -/
  cmd : Word
  /-- OPA (R26) -/
  opa : Word
  /-- OPB (R26) -/
  opb : Word
  /-- OPC (R26) -/
  opc : Word
  /-- RES0 (R27) -/
  res0 : Word
  /-- RES1 (R27) -/
  res1 : Word
  /-- RES2 (R27) -/
  res2 : Word
  /-- RES3 (R27) -/
  res3 : Word
  /-- GCNT, the generator's index (R28) -/
  gcnt : Word
  /-- WCFG.WN, the walk's dimension (R29) -/
  wn : Byte
  /-- WCFG.WP, the walk's precision (R29) -/
  wp : Byte
  /-- PEND, the hidden latch: empty, or the pending command (R30) -/
  pend : Option Pending
deriving DecidableEq, Repr

/-- One atomic step of a run: a host access, a reset, or the engine's own turn (20_memory.md R67,
70_reset_and_hazards.md R240). An access carries its offset in the window and its width in bits, so that an access
outside the interface can be written down and refused (20_memory.md R65). -/
inductive Event where
  /-- a host read of `width` bits at window offset `off` -/
  | read (off : Offset) (width : Nat)
  /-- a host write of `width` bits at window offset `off` -/
  | write (off : Offset) (width : Nat) (v : Word)
  /-- RST is released (70_reset_and_hazards.md R240) -/
  | reset
  /-- the engine's turn: the completion of the pending command, where that is enabled (20_memory.md R67) -/
  | engine
deriving DecidableEq, Repr

/-- The whole state: the engine, and the environment's part of the run (log 1, log 2). -/
structure State extends Engine where
  /-- the steps still to come, in order: the interleaving of 20_memory.md R67 as data -/
  inputs : List Event
  /-- the values RegRead has returned to the host, the newest first; nothing in the machine reads them -/
  replies : List Word
deriving DecidableEq, Repr

/-- The errors a command can complete with (60_exceptions.md R203). -/
inductive ErrorKind where
  /-- n is not 2 or 3 -/
  | invalidDimension
  /-- p < 0; or n*p > 32 outside the Skilling unit -/
  | invalidPrecision
  /-- n*p > 32 at the Skilling unit -/
  | arithmeticOverflow
  /-- the reserved byte is not 0, or the opcode is unassigned -/
  | illegalCommand
  /-- WSTEP with no walk active; GNEXT, GRST or GLOAD with a walk active -/
  | sequenceError
deriving DecidableEq, Repr

/-- Which unit validates (n, p) (60_exceptions.md R204). -/
inductive CheckUnit where
  /-- the Skilling unit, which reports ArithmeticOverflow for n*p > 32 -/
  | skilling
  /-- DEC, ENC and WSTART, which report InvalidPrecision for n*p > 32 -/
  | other
deriving DecidableEq, Repr

/-- The registers of the window (10_state.md R20). -/
inductive Reg where
  /-- 0x00 (R21) -/
  | id
  /-- 0x04 (R22) -/
  | ctrl
  /-- 0x08 (R23, R24) -/
  | status
  /-- 0x0C (R25) -/
  | cmd
  /-- 0x10 (R26) -/
  | opa
  /-- 0x14 (R26) -/
  | opb
  /-- 0x18 (R26) -/
  | opc
  /-- 0x1C (R27) -/
  | res0
  /-- 0x20 (R27) -/
  | res1
  /-- 0x24 (R27) -/
  | res2
  /-- 0x28 (R27) -/
  | res3
  /-- 0x2C (R28) -/
  | gcnt
  /-- 0x30 (R29) -/
  | wcfg
  /-- 0x34, 0x38 and 0x3C (R32) -/
  | reserved
deriving DecidableEq, Repr

/-- Where a step stops. The engine has no trap: a command that fails completes, and that is a next state
(60_exceptions.md R200, R201). -/
inductive Fault where
  /-- `exec` was asked to complete a command while the latch PEND is empty. A completion is enabled only while a
  command is pending (20_memory.md R67), and `step` never asks for another one. Raised by every meaning. Safe: the
  model stops where the spec gives no step (log 5). -/
  | noPendingCommand
deriving DecidableEq, Repr

/-- What the model refuses to give a meaning. -/
inductive Refusal where
  /-- The instruction has no meaning in this model yet; raised by `exec`'s arms only. Safe. No arm raises it now. -/
  | notModelled (mnemonic : String)
  /-- A host access that is not 32 bits wide is outside the interface and is refused (20_memory.md R65,
  93_implementation_defined.md I8). Raised by host reads and writes. Safe. -/
  | accessWidth (width : Nat)
  /-- A host access at an offset that is not a multiple of 4 is outside the interface and is refused
  (20_memory.md R65, 93_implementation_defined.md I8). Raised by host reads and writes. Safe. -/
  | misalignedAccess (off : Offset)
deriving DecidableEq, Repr

/-- What a step answers. -/
abbrev Result := Host.Outcome State Fault Refusal

/-- The engine right after `Reset` (70_reset_and_hazards.md R241): every field is the spec's. -/
def Engine.reset : Engine where
  cie := false
  eie := false
  busy := false
  cc := false
  err := false
  done := false
  active := false
  wrap := false
  ovr := false
  ecode := 0#4
  cmd := 0#32
  opa := 0#32
  opb := 0#32
  opc := 0#32
  res0 := 0#32
  res1 := 0#32
  res2 := 0#32
  res3 := 0#32
  gcnt := 0#32
  wn := 0#8
  wp := 0#8
  pend := none

/-- The machine right after reset, with no host access scheduled and none answered (log 1, log 2). -/
def State.reset : State where
  toEngine := Engine.reset
  inputs := []
  replies := []

end Sys2Proof.Machine
end

