-- ==== Sys2Proof/Machine/Flags.lean ====
section
/-! DEFINITION. The error codes, the interrupt level, and the words that CTRL, STATUS and WCFG read as
(60_exceptions.md R203, 10_state.md R22, R23, R29, R31). -/

namespace Sys2Proof.Machine

/-- The ECODE of each error (60_exceptions.md R203). -/
def ErrorKind.code : ErrorKind → BitVec 4
  | .invalidDimension => 1#4
  | .invalidPrecision => 2#4
  | .arithmeticOverflow => 3#4
  | .illegalCommand => 4#4
  | .sequenceError => 5#4

/-- IRQ, the level of the interrupt output: CC and (CIE or (EIE and ERR)) (10_state.md R31). -/
def Engine.irq (e : Engine) : Bool := e.cc && (e.cie || (e.eie && e.err))

/-- CTRL as read: bit 2 and the reserved bits read 0 (10_state.md R22). -/
def Engine.ctrlWord (e : Engine) : Word := 0#30 ++ BitVec.ofBool e.eie ++ BitVec.ofBool e.cie

/-- STATUS as read, from bit 31 down to bit 0 (10_state.md R23). -/
def Engine.statusWord (e : Engine) : Word :=
  0#20 ++ e.ecode ++ BitVec.ofBool e.irq ++ BitVec.ofBool e.ovr ++ BitVec.ofBool e.wrap ++ BitVec.ofBool e.active
    ++ BitVec.ofBool e.done ++ BitVec.ofBool e.err ++ BitVec.ofBool e.cc ++ BitVec.ofBool e.busy

/-- WCFG as read: WP above WN, the reserved half 0 (10_state.md R29). -/
def Engine.wcfgWord (e : Engine) : Word := 0#16 ++ e.wp ++ e.wn

/-- ID, hardwired (10_state.md R21). -/
def idWord : Word := 0x48534643#32

end Sys2Proof.Machine
end

