-- ==== Sys2Proof/Machine/Bits.lean ====
section
/-! DEFINITION. Single-bit operations on 32-bit words, the masks of 00_scope.md R9 and the lane positions of
00_scope.md R14. -/

namespace Sys2Proof.Machine

/-- `mask(k) = 2^k - 1`, for 0 ≤ k ≤ 32 (00_scope.md R9). -/
def mask (k : Nat) : Word := BitVec.ofNat 32 (2 ^ k - 1)

/-- The word with bit `k` alone set. -/
def bit (k : Nat) : Word := 1#32 <<< k

/-- `u[k] <- NOT u[k]`. -/
def invertBit (u : Word) (k : Nat) : Word := u ^^^ bit k

/-- `swap(u[j], u[k])` (00_scope.md R13): two different bits are both inverted, two equal ones stay. -/
def swapBits (u : Word) (j k : Nat) : Word :=
  if u.getLsbD j = u.getLsbD k then u else invertBit (invertBit u j) k

/-- `u[k] <- 1` where `b` holds, for a bit that is still 0. -/
def orBit (u : Word) (k : Nat) (b : Bool) : Word := if b then u ||| bit k else u

/-- `pos(L, a)`, the bit weight of axis `a` in level `L` of an n-axis layout (00_scope.md R14). -/
def pos (n L a : Nat) : Nat := L * n + (n - 1 - a)

/-- `axis(k)`, the axis lane of bit weight `k` (00_scope.md R14). -/
def axis (n k : Nat) : Nat := n - 1 - k % n

end Sys2Proof.Machine
end

