-- ==== Sys2Proof/Machine/Datapath.lean ====
section
/-! DEFINITION. The pure functions of the three datapath units: the Gray code and its inverse (40_gray.md),
the Skilling transform (41_skilling.md) and the coordinate codec (42_codec.md). -/

namespace Sys2Proof.Machine

/-- `gray(i) = i ^ (i >> 1)` (40_gray.md R100). -/
def gray (i : Word) : Word := i ^^^ (i >>> 1)

/-- The while loop of 40_gray.md R101, with the number of passes it may still make. -/
def ginvLoop : Nat → Word → Word → Word
  | 0, _, out => out
  | k + 1, m, out => if m = 0#32 then out else ginvLoop k (m >>> 1) (out ^^^ (m >>> 1))

/-- `ginv(g)` (40_gray.md R101). The loop makes at most 32 passes, as the rule says (log 14). -/
def ginv (g : Word) : Word := ginvLoop 32 g g

/-- A 1 bit of step `r`: invert the axis-0 bit of every level below `q` (41_skilling.md R131). -/
def invertLane (n q : Nat) (u : Word) : Word :=
  (List.range q).foldl (fun w L => invertBit w (pos n L 0)) u

/-- A 0 bit of step `r`: exchange the axis-0 bit and the axis-`a` bit of every level below `q`
(41_skilling.md R131). -/
def swapLanes (n q a : Nat) (u : Word) : Word :=
  (List.range q).foldl (fun w L => swapBits w (pos n L 0) (pos n L a)) u

/-- Step `r` of the transform: bit `r` of the word chooses (41_skilling.md R131). -/
def skillingStep (n : Nat) (u : Word) (r : Nat) : Word :=
  if u.getLsbD r then invertLane n (r / n) u else swapLanes n (r / n) (axis n r) u

/-- `Skilling(v, n, p)`, the normative bit-serial form: r = n, n+1, ..., N-1 (41_skilling.md R131, R132).
The lanes are the spec's, which marks them as general knowledge (log 11). -/
def skilling (v : Word) (n p : Nat) : Word :=
  (List.range' n (n * p - n)).foldl (skillingStep n) v

/-- Coordinate `a` of `Decode(v, n, p)` (42_codec.md R160). -/
def decodeAxis (v : Word) (n p a : Nat) : Word :=
  (List.range p).foldl (fun c L => orBit c L (v.getLsbD (pos n L a))) 0#32

/-- The bits of coordinate `a` of `Encode(c, n, p)`, put into `v` (42_codec.md R162). -/
def encodeAxis (n p a : Nat) (c v : Word) : Word :=
  (List.range p).foldl (fun w L => orBit w (pos n L a) (c.getLsbD L)) v

/-- `Encode((c_0, c_1), 2, p)` for n = 2 and `Encode((c_0, c_1, c_2), 3, p)` for n = 3 (42_codec.md R162); `c2` is read
only when n = 3. -/
def encodeCoords (c0 c1 c2 : Word) (n p : Nat) : Word :=
  let v := encodeAxis n p 1 c1 (encodeAxis n p 0 c0 0#32)
  if n = 3 then encodeAxis n p 2 c2 v else v

end Sys2Proof.Machine
end

