-- ==== Sys2Proof/Machine/Operands.lean ====
section
/-! DEFINITION. Operands of commands: the latched words A, B and C (10_state.md R30), the pair (n, p) and its
validation (60_exceptions.md R204), and the masking of data operands (30_encoding.md R90). -/

namespace Sys2Proof.Machine

/-- Complete the pending command with what `k` says of the latch; there is nothing to complete while it is empty
(10_state.md R30, 20_memory.md R67; log 5). -/
def withLatch (s : State) (k : Pending → Result) : Result :=
  match s.pend with
  | some l => k l
  | none => .fault .noPendingCommand

/-- `CheckNP(n, p, unit)`: the first error that applies, or none (60_exceptions.md R204, R205). -/
def checkNP (unit : CheckUnit) (n p : Int) : Option ErrorKind :=
  if ¬ (n = 2 ∨ n = 3) then some .invalidDimension
  else if p < 0 then some .invalidPrecision
  else if n * p > 32 then
    match unit with
    | .skilling => some .arithmeticOverflow
    | .other => some .invalidPrecision
  else none

/-- An index operand brought into the domain, `A & mask(N)` with N = n*p (30_encoding.md R90). -/
def maskIndex (v : Word) (n p : Nat) : Word := v &&& mask (n * p)

/-- A coordinate operand brought into the domain, `A & mask(p)` (30_encoding.md R90). -/
def maskCoord (v : Word) (p : Nat) : Word := v &&& mask p

end Sys2Proof.Machine
end

