-- ==== Sys2Proof/Machine/Ops.lean ====
section
/-! DEFINITION. The named operations on the state that commands, host accesses and resets are made of. The two
completions (60_exceptions.md R201, R202) stand where other machines have exception entry and return: this engine has
no trap (R213, R214). -/

namespace Sys2Proof.Machine

/-- Success completion, its status part (60_exceptions.md R202, item 2). -/
def State.succeed (s : State) : State :=
  { s with err := false, ecode := 0#4, cc := true, busy := false, pend := none }

/-- Failure completion: this and nothing else (60_exceptions.md R201). -/
def State.fail (e : ErrorKind) (s : State) : State :=
  { s with err := true, ecode := e.code, cc := true, busy := false, pend := none }

/-- A result-producing command writes all four result registers at once (10_state.md R27). -/
def State.writeResults (r0 r1 r2 r3 : Word) (s : State) : State :=
  { s with res0 := r0, res1 := r1, res2 := r2, res3 := r3 }

/-- GCNT <- v (10_state.md R28). -/
def State.writeGcnt (v : Word) (s : State) : State := { s with gcnt := v }

/-- STATUS.WRAP <- 1 where `b` holds; WRAP is sticky (40_gray.md R106). -/
def State.noteWrap (b : Bool) (s : State) : State := { s with wrap := s.wrap || b }

/-- What a successful WSTART writes: WN, WP, GCNT, ACTIVE and DONE (43_walk.md R181). -/
def State.startWalk (wn wp : Byte) (s : State) : State :=
  { s with wn := wn, wp := wp, gcnt := 0#32, active := true, done := false }

/-- What the last vertex of a walk writes besides the results: GCNT, ACTIVE and DONE (43_walk.md R182). -/
def State.finishWalk (s : State) : State := { s with gcnt := 0#32, active := false, done := true }

/-- STATUS.ACTIVE <- 0 (43_walk.md R183). -/
def State.stopWalk (s : State) : State := { s with active := false }

/-- The accepted CMD write: CMD, PEND with a snapshot of the operands, and BUSY (10_state.md R25). -/
def State.acceptCommand (v : Word) (s : State) : State :=
  { s with cmd := v, pend := some ⟨v, s.opa, s.opb, s.opc⟩, busy := true }

/-- The CMD write that is dropped: OVR and nothing else (10_state.md R25, 60_exceptions.md R208). -/
def State.dropCommand (s : State) : State := { s with ovr := true }

/-- A CMD write (10_state.md R25). Acceptance does not check the word. -/
def State.issueCommand (v : Word) (s : State) : State :=
  if s.busy then s.dropCommand else s.acceptCommand v

/-- `Reset` (70_reset_and_hazards.md R241): the whole engine at its reset values. The host's pending accesses and the
replies it has had are not the engine's and stay (log 10). -/
def State.resetEngine (s : State) : State := { s with toEngine := Engine.reset }

/-- CIE <- v[0] and EIE <- v[1] (10_state.md R22). -/
def State.writeEnables (v : Word) (s : State) : State := { s with cie := v.getLsbD 0, eie := v.getLsbD 1 }

/-- A CTRL write: bit 2 performs the soft reset and discards the rest of the write (10_state.md R22,
70_reset_and_hazards.md R242). -/
def State.writeCtrl (v : Word) (s : State) : State :=
  if v.getLsbD 2 then s.resetEngine else s.writeEnables v

/-- A STATUS write: a 1 clears CC, DONE, WRAP or OVR; every other bit is ignored (10_state.md R24). -/
def State.clearStatus (v : Word) (s : State) : State :=
  { s with
    cc := s.cc && !v.getLsbD 1
    done := s.done && !v.getLsbD 3
    wrap := s.wrap && !v.getLsbD 5
    ovr := s.ovr && !v.getLsbD 6 }

/-- OPA <- v (10_state.md R26). -/
def State.writeOpa (v : Word) (s : State) : State := { s with opa := v }

/-- OPB <- v (10_state.md R26). -/
def State.writeOpb (v : Word) (s : State) : State := { s with opb := v }

/-- OPC <- v (10_state.md R26). -/
def State.writeOpc (v : Word) (s : State) : State := { s with opc := v }

/-- Hand a value that was read to the host; the engine is unchanged (20_memory.md R61; log 2). -/
def State.reply (v : Word) (s : State) : State := { s with replies := v :: s.replies }

end Sys2Proof.Machine
end

