-- ==== Sys2Proof/Machine/Codec.lean ====
section
/-! DEFINITION. The coordinate codec's commands: DEC and ENC (42_codec.md R164, R165). -/

namespace Sys2Proof.Machine

/-- RES0..RES2 <- the coordinates of index `v`, RES2 <- 0 unless n = 3, and RES3 <- `r3`
(42_codec.md R164, 43_walk.md R182). -/
def State.writeCoords (v : Word) (n p : Nat) (r3 : Word) (s : State) : State :=
  s.writeResults (decodeAxis v n p 0) (decodeAxis v n p 1) (if n = 3 then decodeAxis v n p 2 else 0#32) r3

/-- DEC n, p (42_codec.md R164). -/
def execDec (n p : Int) (s : State) : Result :=
  withLatch s fun l =>
    match checkNP .other n p with
    | some e => .next (s.fail e)
    | none => .next (s.writeCoords (maskIndex l.a n.toNat p.toNat) n.toNat p.toNat 0#32).succeed

/-- ENC n, p (42_codec.md R165). -/
def execEnc (n p : Int) (s : State) : Result :=
  withLatch s fun l =>
    match checkNP .other n p with
    | some e => .next (s.fail e)
    | none =>
      .next (s.writeResults
        (encodeCoords (maskCoord l.a p.toNat) (maskCoord l.b p.toNat) (maskCoord l.c p.toNat) n.toNat p.toNat)
        0#32 0#32 0#32).succeed

end Sys2Proof.Machine
end

