-- ==== Sys2Proof/Machine/Gray.lean ====
section
/-! DEFINITION. The Gray-code generator's commands: GRAY, GINV, GNEXT, GRST, GLOAD (40_gray.md R104-R108). -/

namespace Sys2Proof.Machine

/-- GRAY (40_gray.md R104). -/
def execGray (s : State) : Result :=
  withLatch s fun l => .next (s.writeResults (gray l.a) 0#32 0#32 0#32).succeed

/-- GINV (40_gray.md R105). -/
def execGinv (s : State) : Result :=
  withLatch s fun l => .next (s.writeResults (ginv l.a) 0#32 0#32 0#32).succeed

/-- GNEXT (40_gray.md R106): SequenceError during a walk; else one step of the generator, which wraps at 0xFFFFFFFF
and then records it in WRAP. -/
def execGnext (s : State) : Result :=
  withLatch s fun _ =>
    if s.active then .next (s.fail .sequenceError)
    else
      .next (((s.writeResults (gray s.gcnt) s.gcnt 0#32 0#32).noteWrap (s.gcnt == 0xFFFFFFFF#32)).writeGcnt
        (s.gcnt + 1#32)).succeed

/-- GRST (40_gray.md R107): SequenceError during a walk; else GCNT <- 0. -/
def execGrst (s : State) : Result :=
  withLatch s fun _ =>
    if s.active then .next (s.fail .sequenceError) else .next (s.writeGcnt 0#32).succeed

/-- GLOAD (40_gray.md R108): SequenceError during a walk; else GCNT <- A. -/
def execGload (s : State) : Result :=
  withLatch s fun l =>
    if s.active then .next (s.fail .sequenceError) else .next (s.writeGcnt l.a).succeed

end Sys2Proof.Machine
end

