-- ==== Sys2Proof/Machine/Skilling.lean ====
section
/-! DEFINITION. The Skilling transform's command: SKIL (41_skilling.md R136). -/

namespace Sys2Proof.Machine

/-- SKIL n, p (41_skilling.md R136): the transform of `A & mask(N)`, once (n, p) is valid for the Skilling unit. -/
def execSkil (n p : Int) (s : State) : Result :=
  withLatch s fun l =>
    match checkNP .skilling n p with
    | some e => .next (s.fail e)
    | none =>
      .next (s.writeResults (skilling (maskIndex l.a n.toNat p.toNat) n.toNat p.toNat) 0#32 0#32 0#32).succeed

end Sys2Proof.Machine
end

