-- ==== Sys2Proof/Machine/Walk.lean ====
section
/-! DEFINITION. The walk sequencer's and control commands: NOP, WSTART, WSTEP, WSTOP (43_walk.md R180-R183). -/

namespace Sys2Proof.Machine

/-- NOP (43_walk.md R180). -/
def execNop (s : State) : Result := withLatch s fun _ => .next s.succeed

/-- WSTART n, p (43_walk.md R181). -/
def execWstart (n p : Int) (s : State) : Result :=
  withLatch s fun _ =>
    match checkNP .other n p with
    | some e => .next (s.fail e)
    | none => .next (s.startWalk (BitVec.ofInt 8 n) (BitVec.ofInt 8 p)).succeed

/-- `h`, the transformed index of vertex `i` of a walk: Skilling(gray(i), n, p) (43_walk.md R182). -/
def walkIndex (i : Word) (n p : Nat) : Word := skilling (gray i) n p

/-- WSTEP (43_walk.md R182): SequenceError with no walk active; else the vertex GCNT of the walk (WN, WP), and GCNT
advances, or the walk ends after the last vertex. -/
def execWstep (s : State) : Result :=
  withLatch s fun _ =>
    if s.active then
      let n := s.wn.toNat
      let p := s.wp.toNat
      let h := walkIndex s.gcnt n p
      let t := s.writeCoords h n p h
      if s.gcnt = mask (n * p) then .next t.finishWalk.succeed
      else .next (t.writeGcnt (s.gcnt + 1#32)).succeed
    else .next (s.fail .sequenceError)

/-- WSTOP (43_walk.md R183). -/
def execWstop (s : State) : Result := withLatch s fun _ => .next s.stopWalk.succeed

end Sys2Proof.Machine
end

