-- ==== Sys2Proof/Machine/Dispatch.lean ====
section
/-! DEFINITION. The dispatch of a decoded command to its rule (30_encoding.md R91): one arm per command. -/

namespace Sys2Proof.Machine

/-- The completion of the pending command, decoded as `i` (30_encoding.md R91, 60_exceptions.md R201, R202). -/
def exec (i : Instr) (s : State) : Host.Outcome State Fault Refusal :=
  match i with
  | .nop => Sys2Proof.Machine.execNop s
  | .gray => Sys2Proof.Machine.execGray s
  | .ginv => Sys2Proof.Machine.execGinv s
  | .gnext => Sys2Proof.Machine.execGnext s
  | .grst => Sys2Proof.Machine.execGrst s
  | .gload => Sys2Proof.Machine.execGload s
  | .skil n p => Sys2Proof.Machine.execSkil n p s
  | .dec n p => Sys2Proof.Machine.execDec n p s
  | .enc n p => Sys2Proof.Machine.execEnc n p s
  | .wstart n p => Sys2Proof.Machine.execWstart n p s
  | .wstep => Sys2Proof.Machine.execWstep s
  | .wstop => Sys2Proof.Machine.execWstop s

end Sys2Proof.Machine
end

