-- ==== Sys2Proof/Machine/Window.lean ====
section
/-! DEFINITION. The register window: its offsets, the host primitives RegRead and RegWrite, and its place in the
host's address space (10_state.md R20-R32, 20_memory.md R60-R66). -/

namespace Sys2Proof.Machine

/-- The register at a window offset; none where the offset is not a multiple of 4 (10_state.md R20,
20_memory.md R65). -/
def regAt (off : Offset) : Option Reg :=
  match off.toNat with
  | 0x00 => some .id
  | 0x04 => some .ctrl
  | 0x08 => some .status
  | 0x0C => some .cmd
  | 0x10 => some .opa
  | 0x14 => some .opb
  | 0x18 => some .opc
  | 0x1C => some .res0
  | 0x20 => some .res1
  | 0x24 => some .res2
  | 0x28 => some .res3
  | 0x2C => some .gcnt
  | 0x30 => some .wcfg
  | 0x34 => some .reserved
  | 0x38 => some .reserved
  | 0x3C => some .reserved
  | _ => none

/-- `RegRead`: the value of a register; it changes no state (20_memory.md R61, 10_state.md R21-R32). -/
def Engine.regRead (e : Engine) : Reg → Word
  | .id => idWord
  | .ctrl => e.ctrlWord
  | .status => e.statusWord
  | .cmd => e.cmd
  | .opa => e.opa
  | .opb => e.opb
  | .opc => e.opc
  | .res0 => e.res0
  | .res1 => e.res1
  | .res2 => e.res2
  | .res3 => e.res3
  | .gcnt => e.gcnt
  | .wcfg => e.wcfgWord
  | .reserved => 0#32

/-- `RegWrite`: the effect of a write to each register; read-only and reserved ones ignore it
(20_memory.md R62, 10_state.md R22-R32). -/
def State.regWrite (r : Reg) (v : Word) (s : State) : State :=
  match r with
  | .id => s
  | .ctrl => s.writeCtrl v
  | .status => s.clearStatus v
  | .cmd => s.issueCommand v
  | .opa => s.writeOpa v
  | .opb => s.writeOpb v
  | .opc => s.writeOpc v
  | .res0 => s
  | .res1 => s
  | .res2 => s
  | .res3 => s
  | .gcnt => s
  | .wcfg => s
  | .reserved => s

/-- The register a host access of `width` bits at `off` reaches, or the refusal of an access outside the interface
(20_memory.md R65, 93_implementation_defined.md I8; log 7). -/
def accessTarget (off : Offset) (width : Nat) : Except Refusal Reg :=
  if width ≠ 32 then .error (.accessWidth width)
  else
    match regAt off with
    | some r => .ok r
    | none => .error (.misalignedAccess off)

/-- A host read (20_memory.md R61). -/
def hostRead (off : Offset) (width : Nat) (s : State) : Result :=
  match accessTarget off width with
  | .ok r => .next (s.reply (s.toEngine.regRead r))
  | .error e => .refused e

/-- A host write (20_memory.md R62). -/
def hostWrite (off : Offset) (width : Nat) (v : Word) (s : State) : Result :=
  match accessTarget off width with
  | .ok r => .next (s.regWrite r v)
  | .error e => .refused e

/-- The host address of a window offset: BASE + off (20_memory.md R63). -/
def hostAddress (off : Offset) : Nat := Config.base + off.toNat

/-- The window offset that a host address selects, if it lies in the window (20_memory.md R63; log 6). -/
def windowOffset (addr : Nat) : Option Offset :=
  if Config.base ≤ addr ∧ addr < Config.base + 64 then some (BitVec.ofNat 6 (addr - Config.base)) else none

end Sys2Proof.Machine
end

