-- ==== Sys2Proof/Machine/Turn.lean ====
section
/-! DEFINITION. The atomic steps of a run (20_memory.md R67): the engine's completion of the pending command, host
accesses, and RST. -/

namespace Sys2Proof.Machine

/-- The completion of the pending command with word `cw`: decode, then its rule, or IllegalCommand
(30_encoding.md R91, 60_exceptions.md R206). -/
def completeCommand (cw : Word) (s : State) : Result :=
  match decode cw with
  | .ok i => exec i s
  | .error _ => .next (s.fail .illegalCommand)

/-- The engine's turn: the completion, which is enabled only while BUSY = 1; an idle engine holds its state
(20_memory.md R67, 60_exceptions.md R221; log 4). -/
def engineTurn (s : State) : Result :=
  match s.busy, s.pend with
  | true, some l => completeCommand l.cw s
  | _, _ => .next s

/-- One atomic step of the run (20_memory.md R67, 70_reset_and_hazards.md R240). -/
def takeEvent (e : Event) (s : State) : Result :=
  match e with
  | .read off width => hostRead off width s
  | .write off width v => hostWrite off width v s
  | .reset => .next s.resetEngine
  | .engine => engineTurn s

/-- The next step of the run: the first scheduled event; with none left, the engine takes its turn, so that an accepted
command always completes (70_reset_and_hazards.md R250; log 1, log 3). -/
def nextStep (s : State) : Result :=
  match s.inputs with
  | [] => engineTurn s
  | e :: rest => takeEvent e { s with inputs := rest }

/-- The state in which `w` is the pending command and the engine moves next: CMD, PEND and BUSY as an accepted CMD
write sets them, and the engine's turn before every other scheduled event (log 8). -/
def State.withCommandPending (w : Word) (s : State) : State :=
  { s.acceptCommand w with inputs := .engine :: s.inputs }

end Sys2Proof.Machine
end

