-- ==== Sys2Proof/Machine/Step.lean ====
section
/-! DEFINITION. The step function, and where a step finds the command it runs (log 8). -/

namespace Sys2Proof.Machine

/-- One atomic step (20_memory.md R67). -/
def step (s : State) : Host.Outcome State Fault Refusal := nextStep s

/-- `s` with the command word made of the low `nbits` bits of `w` pending, and the engine to move next (log 8). -/
def State.withFetchWord (s : State) (nbits w : Nat) : State :=
  s.withCommandPending (BitVec.ofNat 32 (w % 2 ^ nbits))

end Sys2Proof.Machine
end

