-- ==== Sys2Proof/Safety.lean ====
section
/-! DEFINITION. What counts as a sound state and a legal run, and the specification-level functions that statements
compare the machine with (10_state.md R36, 41_skilling.md R134, R135, 43_walk.md R184). Nothing here is used by the machine. -/

namespace Sys2Proof.Safety

open Sys2Proof.Machine

/-- (n, p) is valid: n is 2 or 3 and n*p ≤ 32; p ≥ 0 holds of every Nat (00_scope.md R6). -/
abbrev ValidPair (n p : Nat) : Prop := (n = 2 ∨ n = 3) ∧ n * p ≤ 32

/-- (n, p) is valid, for the integers of a command word (00_scope.md R6). -/
abbrev ValidPairInt (n p : Int) : Prop := (n = 2 ∨ n = 3) ∧ 0 ≤ p ∧ n * p ≤ 32

/-- STATUS.BUSY = 1 exactly when PEND is non-empty (10_state.md R36, item 1). -/
abbrev BusyMirrorsLatch (e : Engine) : Prop := e.busy = e.pend.isSome

/-- STATUS.ERR = 1 exactly when STATUS.ECODE is not 0 (10_state.md R36, item 2). -/
abbrev ErrMirrorsCode (e : Engine) : Prop := e.err = true ↔ e.ecode ≠ 0#4

/-- An active walk has a valid pair and GCNT at most mask(WN*WP) (10_state.md R36, item 3). -/
abbrev WalkInRange (e : Engine) : Prop :=
  e.active = true → ValidPair e.wn.toNat e.wp.toNat ∧ e.gcnt.toNat ≤ 2 ^ (e.wn.toNat * e.wp.toNat) - 1

/-- STATUS.IRQ as read = CC & (CIE | (EIE & ERR)) (10_state.md R36, item 4). -/
abbrev IrqMirrorsSources (e : Engine) : Prop :=
  e.statusWord.getLsbD 7 = (e.cc && (e.cie || (e.eie && e.err)))

/-- The four invariants of 10_state.md R36. -/
def EngineInvariant (e : Engine) : Prop :=
  BusyMirrorsLatch e ∧ ErrMirrorsCode e ∧ WalkInRange e ∧ IrqMirrorsSources e

/-- WCFG is 0, or holds the valid pair of a successful WSTART (10_state.md R29). -/
abbrev WalkConfigValid (e : Engine) : Prop :=
  (e.wn = 0#8 ∧ e.wp = 0#8) ∨ ValidPair e.wn.toNat e.wp.toNat

/-- ECODE is one of the codes 0 to 5; 6 to 15 are never reported (60_exceptions.md R203). -/
abbrev CodeAssigned (e : Engine) : Prop := e.ecode.toNat ≤ 5

/-- An event inside the interface: a reset, an engine turn, or an aligned 32-bit access (20_memory.md R65). -/
def legalEvent : Event → Bool
  | .read off width => width == 32 && off.toNat % 4 == 0
  | .write off width _ => width == 32 && off.toNat % 4 == 0
  | .reset => true
  | .engine => true

/-- An event that touches no more than the operand registers: an aligned 32-bit read, or an aligned 32-bit write to
OPA, OPB or OPC (20_memory.md R66, 70_reset_and_hazards.md R249). -/
def quietEvent : Event → Bool
  | .read off width => width == 32 && off.toNat % 4 == 0
  | .write off width _ => width == 32 && (off == 0x10#6 || off == 0x14#6 || off == 0x18#6)
  | .reset => false
  | .engine => false

/-- What a success completion leaves of a state to which the command's own writes were made
(60_exceptions.md R202). -/
def succeeded (s : State) : State :=
  { s with err := false, ecode := 0#4, cc := true, busy := false, pend := none }

/-- What a failure completion with error code `code` leaves (60_exceptions.md R201). -/
def failedWith (code : BitVec 4) (s : State) : State :=
  { s with err := true, ecode := code, cc := true, busy := false, pend := none }

/-- The step from `s` to `t` is the success completion of the pending command, which decodes to `i`: it is what `exec i`
answers, and it leaves the engine idle without an error (20_memory.md R67, 60_exceptions.md R202). -/
def SuccessOf (i : Instr) (s t : State) : Prop :=
  (∃ l, s.busy = true ∧ s.pend = some l ∧ decode l.cw = .ok i) ∧ exec i { s with inputs := t.inputs } = .next t ∧
  t.err = false ∧ t.cc = true ∧ t.busy = false ∧ t.pend = none

/-- The step from `s` to `t` is a reset: RST or a CTRL write with bit 2, which leaves the engine at its reset values
(70_reset_and_hazards.md R240, R242). -/
def ResetStep (s t : State) : Prop :=
  t.toEngine = Engine.reset ∧
  ∃ rest, s.inputs = .reset :: rest ∨ ∃ v : Word, v.getLsbD 2 = true ∧ s.inputs = .write 0x04#6 32 v :: rest

/-- The step from `s` is a host write of 1 to bit `k` of STATUS (10_state.md R24). -/
def ClearsStatusBit (k : Nat) (s : State) : Prop :=
  ∃ (v : Word) (rest : List Event), v.getLsbD k = true ∧ s.inputs = .write 0x08#6 32 v :: rest

/-- The encoding clause of a command's rule: the words that match `opc` under mask 0xFF0000FF decode to the command,
made from NDIM and PREC, and the same opcode with RSV not 0 completes as IllegalCommand
(30_encoding.md R83, R84). -/
def SelectedBy (opc : Word) (mk : Byte → Byte → Instr) : Prop :=
  (∀ cw : Word, cw &&& 0xFF0000FF#32 = opc → decode cw = .ok (mk (cw.extractLsb' 8 8) (cw.extractLsb' 16 8))) ∧
  (∀ (s : State) (l : Pending), s.busy = true → s.pend = some l → l.cw &&& 0xFF#32 = opc → l.cw >>> 24 ≠ 0#32 →
    engineTurn s = .next (failedWith 4#4 s))

/-- RUN of a command word: a CMD write, then its completion, with no other step between
(30_encoding.md R93). -/
def runCommand (w : Word) (s : State) : Result := engineTurn (s.issueCommand w)

/-- `k` times RUN WSTEP, stopping at the first step that does not answer a next state (43_walk.md R184). -/
def runWsteps : Nat → State → Result
  | 0, s => .next s
  | k + 1, s =>
    match runWsteps k s with
    | .next t => runCommand (encode .wstep) t
    | .fault f => .fault f
    | .refused r => .refused r

/-- Coordinate `a` of the walk's k-th vertex: Decode(Skilling(gray(k), n, p), n, p) (43_walk.md R184, item 1). -/
def walkVertex (n p k a : Nat) : Word :=
  decodeAxis (skilling (gray (BitVec.ofNat 32 k)) n p) n p a

/-- The axis-0 lane mask M0 (41_skilling.md R135). -/
def laneMask (n p : Nat) : Word := (List.range p).foldl (fun m L => m ||| bit (pos n L 0)) 0#32

/-- Step `r` of the word-parallel transform, steered by the input `c` (41_skilling.md R135). -/
def parallelStep (n p : Nat) (c u : Word) (r : Nat) : Word :=
  let lo := laneMask n p &&& mask (r / n * n)
  if c.getLsbD r then u ^^^ lo
  else
    let t := (u ^^^ (u <<< axis n r)) &&& lo
    u ^^^ t ^^^ (t >>> axis n r)

/-- The word-parallel form of the transform (41_skilling.md R135). -/
def skillingParallel (v : Word) (n p : Nat) : Word :=
  (List.range' n (n * p - n)).foldl (parallelStep n p v) v

/-- The same steps in descending order, r = N-1 down to n (41_skilling.md R134). -/
def skillingInverse (v : Word) (n p : Nat) : Word :=
  (List.range' n (n * p - n)).reverse.foldl (skillingStep n) v

/-- Bits k to 31 of `g`, XORed together (40_gray.md R102). -/
def suffixParity (g : Word) (k : Nat) : Bool :=
  (List.range' k (32 - k)).foldl (fun acc j => xor acc (g.getLsbD j)) false

/-- |x - y| = 1, as integers. -/
def distanceOne (x y : Word) : Bool := x.toNat == y.toNat + 1 || y.toNat == x.toNat + 1

end Sys2Proof.Safety
end

