-- ==== Sys2Proof/Certificates/Slice0/Obligations.lean ====
section
/-! DEFINITION. The statements for the provers. Each docstring names the rule of spec/ it formalises; `succeeded` and
`failedWith` (Safety) are the two completions written out from 60_exceptions.md R202 and R201, so an equation with them
says the result, the completion status and the frame (every field not named keeps its value). -/

open Sys2Proof Sys2Proof.Machine Sys2Proof.Safety

/-! ### The twelve commands, rule by rule -/

/-- NOP (43_walk.md R180). -/
def Obligations.NopRule : Prop :=
  SelectedBy 0x00#32 (fun _ _ => .nop) ∧
  (∀ (s : State) (l : Pending), s.pend = some l → exec .nop s = .next (succeeded s)) ∧
  (∀ s : State, s.statusWord = 0x00000406#32 →
    ∃ t, runCommand 0x00000000#32 s = .next t ∧ t.statusWord = 0x00000002#32)

/-- GRAY (40_gray.md R104). -/
def Obligations.GrayRule : Prop :=
  SelectedBy 0x01#32 (fun _ _ => .gray) ∧
  (∀ (s : State) (l : Pending), s.pend = some l →
    exec .gray s =
      .next (succeeded { s with res0 := l.a ^^^ (l.a >>> 1), res1 := 0#32, res2 := 0#32, res3 := 0#32 })) ∧
  gray 0#32 = 0#32 ∧ gray 0xFFFFFFFF#32 = 0x80000000#32 ∧ gray 0x80000000#32 = 0xC0000000#32 ∧
  (∀ i : Word, (gray i).getLsbD 31 = i.getLsbD 31) ∧
  (∀ s : State, s.busy = false → s.opa = 0x0000002D#32 →
    ∃ t, runCommand 0x00000001#32 s = .next t ∧ t.res0 = 0x0000003B#32)

/-- GINV (40_gray.md R105). -/
def Obligations.GinvRule : Prop :=
  SelectedBy 0x02#32 (fun _ _ => .ginv) ∧
  (∀ (s : State) (l : Pending), s.pend = some l →
    exec .ginv s = .next (succeeded { s with res0 := ginv l.a, res1 := 0#32, res2 := 0#32, res3 := 0#32 })) ∧
  ginv 0#32 = 0#32 ∧ ginv 0xFFFFFFFF#32 = 0xAAAAAAAA#32 ∧ ginv 0x80000000#32 = 0xFFFFFFFF#32 ∧
  ginv 0x40000000#32 = 0x7FFFFFFF#32 ∧
  (∀ s : State, s.busy = false → s.opa = 0x0000003B#32 →
    ∃ t, runCommand 0x00000002#32 s = .next t ∧ t.res0 = 0x0000002D#32)

/-- GNEXT (40_gray.md R106). -/
def Obligations.GnextRule : Prop :=
  SelectedBy 0x03#32 (fun _ _ => .gnext) ∧
  (∀ (s : State) (l : Pending), s.pend = some l → s.active = true →
    exec .gnext s = .next (failedWith 5#4 s)) ∧
  (∀ (s : State) (l : Pending), s.pend = some l → s.active = false →
    exec .gnext s =
      .next (succeeded { s with
        res0 := gray s.gcnt
        res1 := s.gcnt
        res2 := 0#32
        res3 := 0#32
        wrap := s.wrap || decide (s.gcnt = 0xFFFFFFFF#32)
        gcnt := BitVec.ofNat 32 ((s.gcnt.toNat + 1) % 2 ^ 32) })) ∧
  (∀ s : State, s.busy = false → s.active = false → s.gcnt = 0xFFFFFFFF#32 →
    ∃ t, runCommand 0x00000003#32 s = .next t ∧ t.err = false ∧ t.res0 = 0x80000000#32 ∧
      t.res1 = 0xFFFFFFFF#32 ∧ t.gcnt = 0#32 ∧ t.wrap = true) ∧
  (∀ s : State, s.busy = false → s.active = false →
    ∃ t0 t1 t2 t3 t4, runCommand 0x00000004#32 s = .next t0 ∧
      runCommand 0x00000003#32 t0 = .next t1 ∧ t1.res0 = 0#32 ∧ t1.res1 = 0#32 ∧
      runCommand 0x00000003#32 t1 = .next t2 ∧ t2.res0 = 1#32 ∧ t2.res1 = 1#32 ∧
      runCommand 0x00000003#32 t2 = .next t3 ∧ t3.res0 = 3#32 ∧ t3.res1 = 2#32 ∧
      runCommand 0x00000003#32 t3 = .next t4 ∧ t4.res0 = 2#32 ∧ t4.res1 = 3#32 ∧ t4.gcnt = 4#32)

/-- GRST (40_gray.md R107). -/
def Obligations.GrstRule : Prop :=
  SelectedBy 0x04#32 (fun _ _ => .grst) ∧
  (∀ (s : State) (l : Pending), s.pend = some l → s.active = true →
    exec .grst s = .next (failedWith 5#4 s)) ∧
  (∀ (s : State) (l : Pending), s.pend = some l → s.active = false →
    exec .grst s = .next (succeeded { s with gcnt := 0#32 })) ∧
  (∀ (s : State) (l : Pending), s.pend = some l → s.active = false → s.gcnt = 0#32 →
    exec .grst s = .next (succeeded s)) ∧
  (∀ s : State, s.busy = false → s.active = false → s.gcnt = 0x00000007#32 →
    ∃ t, runCommand 0x00000004#32 s = .next t ∧ t.gcnt = 0#32)

/-- GLOAD (40_gray.md R108). -/
def Obligations.GloadRule : Prop :=
  SelectedBy 0x05#32 (fun _ _ => .gload) ∧
  (∀ (s : State) (l : Pending), s.pend = some l → s.active = true →
    exec .gload s = .next (failedWith 5#4 s)) ∧
  (∀ (s : State) (l : Pending), s.pend = some l → s.active = false →
    exec .gload s = .next (succeeded { s with gcnt := l.a })) ∧
  (∀ s : State, s.busy = false → s.active = false → s.opa = 0xFFFFFFFF#32 →
    ∃ t u, runCommand 0x00000005#32 s = .next t ∧ runCommand 0x00000003#32 t = .next u ∧
      u.res0 = 0x80000000#32 ∧ u.res1 = 0xFFFFFFFF#32 ∧ u.gcnt = 0#32 ∧ u.wrap = true)

/-- SKIL (41_skilling.md R136). -/
def Obligations.SkilRule : Prop :=
  SelectedBy 0x10#32 (fun n p => .skil n.toInt p.toInt) ∧
  (∀ (s : State) (l : Pending) (n p : Int), s.pend = some l → n ≠ 2 → n ≠ 3 →
    exec (.skil n p) s = .next (failedWith 1#4 s)) ∧
  (∀ (s : State) (l : Pending) (n p : Int), s.pend = some l → (n = 2 ∨ n = 3) → p < 0 →
    exec (.skil n p) s = .next (failedWith 2#4 s)) ∧
  (∀ (s : State) (l : Pending) (n p : Int), s.pend = some l → (n = 2 ∨ n = 3) → 0 ≤ p → 32 < n * p →
    exec (.skil n p) s = .next (failedWith 3#4 s)) ∧
  (∀ (s : State) (l : Pending) (n p : Nat), s.pend = some l → ValidPair n p →
    exec (.skil n p) s =
      .next (succeeded { s with
        res0 := skilling (l.a &&& mask (n * p)) n p
        res1 := 0#32
        res2 := 0#32
        res3 := 0#32 })) ∧
  (∀ (a : Word) (n : Nat), n = 2 ∨ n = 3 → skilling (a &&& mask (n * 0)) n 0 = 0#32) ∧
  (∀ (a : Word) (n : Nat), n = 2 ∨ n = 3 → skilling (a &&& mask (n * 1)) n 1 = a &&& mask n) ∧
  skilling (0xFFFFFF0D#32 &&& mask (2 * 2)) 2 2 = 0x0000000D#32 ∧
  skilling (0x80000000#32 &&& mask (2 * 16)) 2 16 = 0xAAAAAAAA#32 ∧
  (∀ a : Word, a &&& mask (2 * 16) = a ∧ a &&& mask (3 * 10) = a &&& 0x3FFFFFFF#32) ∧
  (∀ s : State, s.busy = false → s.opa = 0x000000CD#32 →
    ∃ t, runCommand 0x00040210#32 s = .next t ∧ t.res0 = 0x000000CE#32)

/-- DEC (42_codec.md R164). -/
def Obligations.DecRule : Prop :=
  SelectedBy 0x20#32 (fun n p => .dec n.toInt p.toInt) ∧
  (∀ (s : State) (l : Pending) (n p : Int), s.pend = some l → n ≠ 2 → n ≠ 3 →
    exec (.dec n p) s = .next (failedWith 1#4 s)) ∧
  (∀ (s : State) (l : Pending) (n p : Int), s.pend = some l → (n = 2 ∨ n = 3) → (p < 0 ∨ 32 < n * p) →
    exec (.dec n p) s = .next (failedWith 2#4 s)) ∧
  (∀ (s : State) (l : Pending) (n p : Nat), s.pend = some l → ValidPair n p →
    exec (.dec n p) s =
      .next (succeeded { s with
        res0 := decodeAxis (l.a &&& mask (n * p)) n p 0
        res1 := decodeAxis (l.a &&& mask (n * p)) n p 1
        res2 := if n = 3 then decodeAxis (l.a &&& mask (n * p)) n p 2 else 0#32
        res3 := 0#32 })) ∧
  (∀ (a : Word) (n ax : Nat), n = 2 ∨ n = 3 → decodeAxis (a &&& mask (n * 0)) n 0 ax = 0#32) ∧
  decodeAxis (0xF0#32 &&& mask (2 * 2)) 2 2 0 = 0#32 ∧ decodeAxis (0xF0#32 &&& mask (2 * 2)) 2 2 1 = 0#32 ∧
  decodeAxis 0xAAAAAAAA#32 2 16 0 = 65535#32 ∧ decodeAxis 0xAAAAAAAA#32 2 16 1 = 0#32 ∧
  decodeAxis 0x3FFFFFFF#32 3 10 0 = 1023#32 ∧ decodeAxis 0x3FFFFFFF#32 3 10 1 = 1023#32 ∧
  decodeAxis 0x3FFFFFFF#32 3 10 2 = 1023#32 ∧
  (∀ s : State, s.busy = false → s.opa = 0x000000CE#32 →
    ∃ t, runCommand 0x00040220#32 s = .next t ∧ t.res0 = 11#32 ∧ t.res1 = 10#32 ∧ t.res2 = 0#32 ∧ t.res3 = 0#32)

/-- ENC (42_codec.md R165). -/
def Obligations.EncRule : Prop :=
  SelectedBy 0x21#32 (fun n p => .enc n.toInt p.toInt) ∧
  (∀ (s : State) (l : Pending) (n p : Int), s.pend = some l → n ≠ 2 → n ≠ 3 →
    exec (.enc n p) s = .next (failedWith 1#4 s)) ∧
  (∀ (s : State) (l : Pending) (n p : Int), s.pend = some l → (n = 2 ∨ n = 3) → (p < 0 ∨ 32 < n * p) →
    exec (.enc n p) s = .next (failedWith 2#4 s)) ∧
  (∀ (s : State) (l : Pending) (n p : Nat), s.pend = some l → ValidPair n p →
    exec (.enc n p) s =
      .next (succeeded { s with
        res0 := encodeCoords (l.a &&& mask p) (l.b &&& mask p) (l.c &&& mask p) n p
        res1 := 0#32
        res2 := 0#32
        res3 := 0#32 })) ∧
  (∀ (a b c : Word) (n : Nat), n = 2 ∨ n = 3 → encodeCoords (a &&& mask 0) (b &&& mask 0) (c &&& mask 0) n 0 = 0#32) ∧
  (∀ (a b c c' : Word) (p : Nat), encodeCoords a b c 2 p = encodeCoords a b c' 2 p) ∧
  encodeCoords (5#32 &&& mask 2) (1#32 &&& mask 2) 0#32 2 2 = 0x3#32 ∧
  encodeCoords 0xFFFF#32 0#32 0#32 2 16 = 0xAAAAAAAA#32 ∧
  (∀ s : State, s.busy = false → s.opa = 2#32 → s.opb = 3#32 →
    ∃ t, runCommand 0x00020221#32 s = .next t ∧ t.res0 = 0x0000000D#32)

/-- WSTART (43_walk.md R181). -/
def Obligations.WstartRule : Prop :=
  SelectedBy 0x30#32 (fun n p => .wstart n.toInt p.toInt) ∧
  (∀ (s : State) (l : Pending) (n p : Int), s.pend = some l → n ≠ 2 → n ≠ 3 →
    exec (.wstart n p) s = .next (failedWith 1#4 s)) ∧
  (∀ (s : State) (l : Pending) (n p : Int), s.pend = some l → (n = 2 ∨ n = 3) → (p < 0 ∨ 32 < n * p) →
    exec (.wstart n p) s = .next (failedWith 2#4 s)) ∧
  (∀ (s : State) (l : Pending) (n p : Nat), s.pend = some l → ValidPair n p →
    exec (.wstart n p) s =
      .next (succeeded { s with
        wn := BitVec.ofNat 8 n
        wp := BitVec.ofNat 8 p
        gcnt := 0#32
        active := true
        done := false })) ∧
  (∀ s : State, s.busy = false →
    (∀ w ∈ [0x00020130#32, 0x00020430#32, 0x00FF0030#32], runCommand w s = .next (failedWith 1#4 { s with cmd := w })) ∧
    (∀ w ∈ [0x00110230#32, 0x00FF0230#32, 0x000B0330#32], runCommand w s = .next (failedWith 2#4 { s with cmd := w })) ∧
    (∀ w ∈ [0x00000230#32, 0x00100230#32, 0x000A0330#32], ∃ t, runCommand w s = .next t ∧ t.err = false ∧
      t.active = true)) ∧
  (∃ t, runCommand 0x00010230#32 State.reset = .next t ∧ t.wcfgWord = 0x00000102#32 ∧ t.gcnt = 0#32 ∧
    t.active = true ∧ t.statusWord = 0x00000012#32)

/-- WSTEP (43_walk.md R182). -/
def Obligations.WstepRule : Prop :=
  SelectedBy 0x31#32 (fun _ _ => .wstep) ∧
  (∀ (s : State) (l : Pending), s.pend = some l → s.active = false →
    exec .wstep s = .next (failedWith 5#4 s)) ∧
  (∀ (s : State) (l : Pending) (n p : Nat) (h : Word), s.pend = some l → s.active = true →
    n = s.wn.toNat → p = s.wp.toNat → h = skilling (gray s.gcnt) n p → s.gcnt ≠ mask (n * p) →
    exec .wstep s =
      .next (succeeded { s with
        res0 := decodeAxis h n p 0
        res1 := decodeAxis h n p 1
        res2 := if n = 3 then decodeAxis h n p 2 else 0#32
        res3 := h
        gcnt := s.gcnt + 1#32 })) ∧
  (∀ (s : State) (l : Pending) (n p : Nat) (h : Word), s.pend = some l → s.active = true →
    n = s.wn.toNat → p = s.wp.toNat → h = skilling (gray s.gcnt) n p → s.gcnt = mask (n * p) →
    exec .wstep s =
      .next (succeeded { s with
        res0 := decodeAxis h n p 0
        res1 := decodeAxis h n p 1
        res2 := if n = 3 then decodeAxis h n p 2 else 0#32
        res3 := h
        gcnt := 0#32
        active := false
        done := true })) ∧
  (∃ s0 t1 t2 t3 t16, runCommand 0x00020230#32 State.reset = .next s0 ∧
    runWsteps 1 s0 = .next t1 ∧ t1.res0 = 0#32 ∧ t1.res1 = 0#32 ∧ t1.res3 = 0x0#32 ∧
    runWsteps 2 s0 = .next t2 ∧ t2.res0 = 1#32 ∧ t2.res1 = 0#32 ∧ t2.res3 = 0x2#32 ∧
    runWsteps 3 s0 = .next t3 ∧ t3.res0 = 1#32 ∧ t3.res1 = 1#32 ∧ t3.res3 = 0x3#32 ∧
    runWsteps 16 s0 = .next t16 ∧ t16.res0 = 3#32 ∧ t16.res1 = 0#32 ∧ t16.res3 = 0xA#32 ∧
    t16.done = true ∧ t16.active = false ∧ t16.gcnt = 0#32)

/-- WSTOP (43_walk.md R183). -/
def Obligations.WstopRule : Prop :=
  SelectedBy 0x32#32 (fun _ _ => .wstop) ∧
  (∀ (s : State) (l : Pending), s.pend = some l →
    exec .wstop s = .next (succeeded { s with active := false })) ∧
  (∃ s0 t u, runCommand 0x00020330#32 State.reset = .next s0 ∧ runWsteps 5 s0 = .next t ∧
    runCommand 0x00000032#32 t = .next u ∧ u.gcnt = 5#32 ∧ u.active = false)

/-! ### The Gray code -/

/-- The inverse loop stops within 32 passes, and bit k of its result is the XOR of bits k to 31
(40_gray.md R101; the closed form is the spec's own inference, R102; the fuel of the loop is log 14). -/
def Obligations.GinvClosedForm : Prop :=
  ∀ g : Word, (∀ passes ≥ 32, ginvLoop passes g g = ginv g) ∧
    ∀ k < 32, (ginv g).getLsbD k = suffixParity g k

/-- The bits of a Gray code (40_gray.md R100) and its laws, the spec's own inference (R103): mutual inverses, neighbours
differ in one bit, and codes do not depend on a width. -/
def Obligations.GrayCodeLaws : Prop :=
  (∀ i : Word, gray i = i ^^^ (i >>> 1) ∧ (gray i).getLsbD 31 = i.getLsbD 31 ∧
    ∀ k < 31, (gray i).getLsbD k = (i.getLsbD k ^^ i.getLsbD (k + 1))) ∧
  (∀ i : Word, ginv (gray i) = i) ∧ (∀ g : Word, gray (ginv g) = g) ∧
  (∀ i : Word, i ≠ 0xFFFFFFFF#32 → ∃ k < 32, gray i ^^^ gray (i + 1#32) = BitVec.twoPow 32 k) ∧
  (∀ (i : Word) (m : Nat), i.toNat < 2 ^ m → (gray i).toNat < 2 ^ m) ∧
  (∀ (i : Word) (m : Nat), i.toNat < 2 ^ m → (gray i).toNat = i.toNat ^^^ (i.toNat / 2))

/-! ### The Skilling transform -/

/-- The transform is its steps in ascending order, and what one step does to every bit below its level: a 1 bit inverts
the axis-0 lane, a 0 bit exchanges the axis-0 lane with the lane of r; all other bits stay (41_skilling.md R131). -/
def Obligations.SkillingStepLanes : Prop :=
  (∀ (v : Word) (n p : Nat), skilling v n p = (List.range' n (n * p - n)).foldl (skillingStep n) v) ∧
  ∀ (u : Word) (n r L a : Nat), (n = 2 ∨ n = 3) → n ≤ r → r < 32 → a < n → pos n L a < 32 →
    (skillingStep n u r).getLsbD (pos n L a) =
      if r / n ≤ L then u.getLsbD (pos n L a)
      else if u.getLsbD r then
        (if a = 0 then !u.getLsbD (pos n L 0) else u.getLsbD (pos n L a))
      else if a = 0 then u.getLsbD (pos n L (n - 1 - r % n))
      else if a = n - 1 - r % n then u.getLsbD (pos n L 0)
      else u.getLsbD (pos n L a)

/-- For a valid pair the transform permutes [0, 2^N), and the descending order of its steps is the inverse
(41_skilling.md, section 1; the spec's own inference, R134). -/
def Obligations.SkillingPermutation : Prop :=
  ∀ (n p : Nat) (v : Word), ValidPair n p → v.toNat < 2 ^ (n * p) →
    (skilling v n p).toNat < 2 ^ (n * p) ∧ (skillingInverse v n p).toNat < 2 ^ (n * p) ∧
    skillingInverse (skilling v n p) n p = v ∧ skilling (skillingInverse v n p) n p = v

/-- When step r reads its control bit, the bit is still the input's; the top level is never written
(41_skilling.md, section 1; the spec's own inference, R133). -/
def Obligations.SkillingControlBits : Prop :=
  ∀ (n p : Nat) (v : Word), ValidPair n p →
    (∀ r, n ≤ r → r < n * p →
      ((List.range' n (r - n)).foldl (skillingStep n) v).getLsbD r = v.getLsbD r) ∧
    (∀ k, n * p - n ≤ k → k < n * p → (skilling v n p).getLsbD k = v.getLsbD k)

/-- The word-parallel form computes the same function (41_skilling.md, section 1; the spec's own inference, R135). -/
def Obligations.SkillingWordParallel : Prop :=
  ∀ (n p : Nat), ValidPair n p →
    laneMask n p = (if n = 2 then 0xAAAAAAAA#32 else 0x24924924#32) &&& mask (n * p) ∧
    ∀ v : Word, v.toNat < 2 ^ (n * p) → skillingParallel v n p = skilling v n p

/-! ### The coordinate codec -/

/-- Bit L of coordinate a is bit pos(L, a) of the index, in weights and in the source's MSB-first positions, and a
coordinate is below 2^p (42_codec.md R160). -/
def Obligations.DecodeLanes : Prop :=
  ∀ (v : Word) (n p a : Nat), ValidPair n p → a < n →
    (∀ L < p, (decodeAxis v n p a).getLsbD L = v.getLsbD (L * n + (n - 1 - a))) ∧
    (∀ j < p, (decodeAxis v n p a).getLsbD (p - 1 - j) = v.getLsbD (n * p - 1 - a - j * n)) ∧
    (decodeAxis v n p a).toNat < 2 ^ p

/-- Bit pos(L, a) of the index is bit L of coordinate a, and the index is below 2^N (42_codec.md R162). -/
def Obligations.EncodeLanes : Prop :=
  ∀ (c0 c1 c2 : Word) (n p : Nat), ValidPair n p →
    (encodeCoords c0 c1 c2 n p).toNat < 2 ^ (n * p) ∧
    ∀ L < p, (encodeCoords c0 c1 c2 n p).getLsbD (L * n + (n - 1)) = c0.getLsbD L ∧
      (encodeCoords c0 c1 c2 n p).getLsbD (L * n + (n - 2)) = c1.getLsbD L ∧
      (n = 3 → (encodeCoords c0 c1 c2 n p).getLsbD (L * n) = c2.getLsbD L)

/-- Decode and Encode undo one another (42_codec.md, section 1; the spec's own inference, R163). -/
def Obligations.CodecRoundTrip : Prop :=
  ∀ (n p : Nat), ValidPair n p →
    (∀ c0 c1 c2 : Word, c0.toNat < 2 ^ p → c1.toNat < 2 ^ p → c2.toNat < 2 ^ p →
      decodeAxis (encodeCoords c0 c1 c2 n p) n p 0 = c0 ∧ decodeAxis (encodeCoords c0 c1 c2 n p) n p 1 = c1 ∧
      (n = 3 → decodeAxis (encodeCoords c0 c1 c2 n p) n p 2 = c2)) ∧
    (∀ x : Word, x.toNat < 2 ^ (n * p) →
      encodeCoords (decodeAxis x n p 0) (decodeAxis x n p 1) (decodeAxis x n p 2) n p = x)

/-! ### Command words -/

/-- Decoding the encoding of a well-formed command gives it back (30_encoding.md, sections 1, 3 and 5). -/
def Obligations.DecodeOfEncode : Prop := ∀ i : Instr, i.wellFormed = true → decode (encode i) = .ok i

/-- Encoding what a word decodes to gives the word back, up to the two fields that eight commands ignore; and every
decoded command is well-formed (30_encoding.md, sections 1, 3 and 5). -/
def Obligations.EncodeOfDecode : Prop :=
  ∀ (cw : Word) (i : Instr), decode cw = .ok i →
    i.wellFormed = true ∧ encode i &&& 0xFF0000FF#32 = cw &&& 0xFF0000FF#32 ∧
    ((∃ n p, i = .skil n p ∨ i = .dec n p ∨ i = .enc n p ∨ i = .wstart n p) → encode i = cw)

/-- The assembler's word, with the rule's five examples (30_encoding.md R92). -/
def Obligations.AssemblerWords : Prop :=
  (∀ mk ∈ [(0x00#32, Instr.nop), (0x01#32, .gray), (0x02#32, .ginv), (0x03#32, .gnext), (0x04#32, .grst),
      (0x05#32, .gload), (0x31#32, .wstep), (0x32#32, .wstop)], encode mk.2 = mk.1) ∧
  (∀ n p : Int, -128 ≤ n → n ≤ 127 → -128 ≤ p → p ≤ 127 →
    ∀ mk ∈ [(0x10#32, Instr.skil n p), (0x20#32, .dec n p), (0x21#32, .enc n p), (0x30#32, .wstart n p)],
      encode mk.2 = mk.1 ||| ((BitVec.ofInt 32 n &&& 0xFF#32) <<< 8) ||| ((BitVec.ofInt 32 p &&& 0xFF#32) <<< 16)) ∧
  encode (.wstart 2 2) = 0x00020230#32 ∧ encode (.skil 2 4) = 0x00040210#32 ∧ encode (.dec 3 10) = 0x000A0320#32 ∧
  encode (.wstart 2 (-1)) = 0x00FF0230#32 ∧ encode .gnext = 0x00000003#32

/-- The two command fields that carry n and p are two's-complement bytes (30_encoding.md, section 1). -/
def Obligations.OperandAssembly : Prop :=
  ∀ (cw : Word) (n p : Int), decode cw = .ok (.skil n p) ∨ decode cw = .ok (.dec n p) ∨ decode cw = .ok (.enc n p) ∨
      decode cw = .ok (.wstart n p) →
    n = (cw.extractLsb' 8 8).toInt ∧ p = (cw.extractLsb' 16 8).toInt ∧ -128 ≤ n ∧ n ≤ 127 ∧ -128 ≤ p ∧ p ≤ 127

/-- The decoder is total: a word decodes exactly when RSV is 0 and OPC is one of the twelve; the illegal opcodes are the
ranges of R85 (30_encoding.md, sections 3 and 4; that the decoder is total is the spec's own inference, R91). -/
def Obligations.DecoderTotal : Prop :=
  (∀ cw : Word, (∃ i, decode cw = .ok i) ↔
    cw >>> 24 = 0#32 ∧ cw &&& 0xFF#32 ∈
      [0x00#32, 0x01#32, 0x02#32, 0x03#32, 0x04#32, 0x05#32, 0x10#32, 0x20#32, 0x21#32, 0x30#32, 0x31#32, 0x32#32]) ∧
  (∀ cw : Word, cw >>> 24 = 0#32 → ((¬∃ i, decode cw = .ok i) ↔
    (0x06 ≤ (cw &&& 0xFF#32).toNat ∧ (cw &&& 0xFF#32).toNat ≤ 0x0F) ∨
    (0x11 ≤ (cw &&& 0xFF#32).toNat ∧ (cw &&& 0xFF#32).toNat ≤ 0x1F) ∨
    (0x22 ≤ (cw &&& 0xFF#32).toNat ∧ (cw &&& 0xFF#32).toNat ≤ 0x2F) ∨
    (0x33 ≤ (cw &&& 0xFF#32).toNat ∧ (cw &&& 0xFF#32).toNat ≤ 0xFF)))

/-- NDIM and PREC of the eight commands without (n, p) are ignored (30_encoding.md R86). -/
def Obligations.IgnoredFields : Prop :=
  ∀ cw cw' : Word, cw &&& 0xFF0000FF#32 = cw' &&& 0xFF0000FF#32 →
    cw &&& 0xFF#32 ∈ [0x00#32, 0x01#32, 0x02#32, 0x03#32, 0x04#32, 0x05#32, 0x31#32, 0x32#32] →
    decode cw = decode cw' ∧ ∀ s : State, completeCommand cw s = completeCommand cw' s

/-- A few words written out from the encoding tables decode to their commands (95_test_vectors.md, section 5). -/
def Obligations.SampleWordsDecode : Prop :=
  decode 0x00000000#32 = .ok .nop ∧ decode 0x00000003#32 = .ok .gnext ∧ decode 0x00020230#32 = .ok (.wstart 2 2) ∧
  decode 0x00FF0230#32 = .ok (.wstart 2 (-1)) ∧ decode 0x00108030#32 = .ok (.wstart (-128) 16) ∧
  decode 0x000A0320#32 = .ok (.dec 3 10) ∧ decode 0x00AB1231#32 = .ok .wstep ∧
  (∀ w ∈ [0x01000001#32, 0x80000031#32, 0x00000006#32, 0x00000011#32, 0x00000022#32, 0x000000FF#32],
    ¬∃ i, decode w = .ok i)

/-- A step runs the decoded command: with a command pending and no other event first, step is exec of the decoded command;
a word that does not decode completes as IllegalCommand (20_memory.md, section 3; 30_encoding.md, section 4; the schedule
is the model's choice, log 1 and log 3). -/
def Obligations.StepRunsDecoded : Prop :=
  ∀ (s : State) (l : Pending), s.busy = true → s.pend = some l →
    (s.inputs = [] →
      (∀ i, decode l.cw = .ok i → step s = exec i s) ∧
      ((¬∃ i, decode l.cw = .ok i) → step s = .next (failedWith 4#4 s))) ∧
    (∀ rest, s.inputs = .engine :: rest →
      (∀ i, decode l.cw = .ok i → step s = exec i { s with inputs := rest }) ∧
      ((¬∃ i, decode l.cw = .ok i) → step s = .next (failedWith 4#4 { s with inputs := rest })))

/-- An illegal word fails with code 4 and changes nothing else, and the next CMD write is accepted at once
(30_encoding.md R84, 60_exceptions.md R206). -/
def Obligations.IllegalCommandFails : Prop :=
  ∀ (s : State) (l : Pending) (v : Word), s.busy = true → s.pend = some l →
    (l.cw >>> 24 ≠ 0#32 ∨ l.cw &&& 0xFF#32 ∉
      [0x00#32, 0x01#32, 0x02#32, 0x03#32, 0x04#32, 0x05#32, 0x10#32, 0x20#32, 0x21#32, 0x30#32, 0x31#32, 0x32#32]) →
    engineTurn s = .next (failedWith 4#4 s) ∧
    (failedWith 4#4 s).issueCommand v =
      { failedWith 4#4 s with cmd := v, pend := some ⟨v, s.opa, s.opb, s.opc⟩, busy := true }

/-! ### The register window -/

/-- CTRL: bit 2 of a write resets and discards the rest, otherwise bits 0 and 1 are stored; it reads CIE, EIE and zeros;
BUSY does not matter; an enabled completion raises IRQ (10_state.md R22, 70_reset_and_hazards.md R242). -/
def Obligations.CtrlRegister : Prop :=
  (∀ (s : State) (v : Word), v.getLsbD 2 = true → hostWrite 0x04#6 32 v s = .next { s with toEngine := Engine.reset }) ∧
  (∀ (s : State) (v : Word), v.getLsbD 2 = false →
    hostWrite 0x04#6 32 v s = .next { s with cie := v.getLsbD 0, eie := v.getLsbD 1 }) ∧
  (∀ s : State, ∃ r : Word, hostRead 0x04#6 32 s = .next { s with replies := r :: s.replies } ∧
    r.getLsbD 0 = s.cie ∧ r.getLsbD 1 = s.eie ∧ ∀ k, 2 ≤ k → r.getLsbD k = false) ∧
  (∀ (s t : State) (l : Pending), s.busy = true → s.pend = some l → engineTurn s = .next t →
    (s.cie = true → t.irq = true) ∧ (s.eie = true → t.err = true → t.irq = true)) ∧
  Engine.reset.cie = false ∧ Engine.reset.eie = false

/-- STATUS reads its fields at their bits, and zeros above bit 11 (10_state.md, section 2). -/
def Obligations.StatusFields : Prop :=
  ∀ s : State, ∃ r : Word, hostRead 0x08#6 32 s = .next { s with replies := r :: s.replies } ∧
    r.getLsbD 0 = s.busy ∧ r.getLsbD 1 = s.cc ∧ r.getLsbD 2 = s.err ∧ r.getLsbD 3 = s.done ∧
    r.getLsbD 4 = s.active ∧ r.getLsbD 5 = s.wrap ∧ r.getLsbD 6 = s.ovr ∧
    r.getLsbD 7 = (s.cc && (s.cie || (s.eie && s.err))) ∧ r.extractLsb' 8 4 = s.ecode ∧
    ∀ k, 12 ≤ k → r.getLsbD k = false

/-- A STATUS write clears CC, DONE, WRAP and OVR where its bits 1, 3, 5 and 6 are 1, and nothing else, BUSY or not
(10_state.md R24). -/
def Obligations.StatusWriteClears : Prop :=
  ∀ (s : State) (v : Word), hostWrite 0x08#6 32 v s = .next { s with
    cc := if v.getLsbD 1 then false else s.cc
    done := if v.getLsbD 3 then false else s.done
    wrap := if v.getLsbD 5 then false else s.wrap
    ovr := if v.getLsbD 6 then false else s.ovr }

/-- A CMD write is accepted with a snapshot of the operands while BUSY = 0, and dropped with OVR set while BUSY = 1; CMD
reads the last accepted word; acceptance checks nothing, and an illegal word fails at its completion (10_state.md R25). -/
def Obligations.CmdRegister : Prop :=
  (∀ (s : State) (v : Word), s.busy = true → hostWrite 0x0C#6 32 v s = .next { s with ovr := true }) ∧
  (∀ (s : State) (v : Word), s.busy = false → hostWrite 0x0C#6 32 v s =
    .next { s with cmd := v, pend := some ⟨v, s.opa, s.opb, s.opc⟩, busy := true }) ∧
  (∀ s : State, hostRead 0x0C#6 32 s = .next { s with replies := s.cmd :: s.replies }) ∧
  (∀ (s : State) (v : Word), s.busy = false → (¬∃ i, decode v = .ok i) →
    runCommand v s = .next (failedWith 4#4 { s with cmd := v })) ∧
  Engine.reset.cmd = 0#32

/-- OPA, OPB and OPC store every write in full, BUSY or not, read back what is stored, are 0 at reset, and no command
writes or reads them: a command reads the latch (10_state.md R26). -/
def Obligations.OperandRegisters : Prop :=
  (∀ (s : State) (v : Word), hostWrite 0x10#6 32 v s = .next { s with opa := v } ∧
    hostWrite 0x14#6 32 v s = .next { s with opb := v } ∧ hostWrite 0x18#6 32 v s = .next { s with opc := v }) ∧
  (∀ s : State, hostRead 0x10#6 32 s = .next { s with replies := s.opa :: s.replies } ∧
    hostRead 0x14#6 32 s = .next { s with replies := s.opb :: s.replies } ∧
    hostRead 0x18#6 32 s = .next { s with replies := s.opc :: s.replies }) ∧
  (Engine.reset.opa = 0#32 ∧ Engine.reset.opb = 0#32 ∧ Engine.reset.opc = 0#32) ∧
  (∀ (i : Instr) (s t : State) (a b c : Word), exec i s = .next t →
    t.opa = s.opa ∧ t.opb = s.opb ∧ t.opc = s.opc ∧
    exec i { s with opa := a, opb := b, opc := c } = .next { t with opa := a, opb := b, opc := c })

/-- The read-only registers read their values, reserved space and bits read 0, every write to them is ignored, and no read
changes the engine (10_state.md R21, R32). -/
def Obligations.ReadOnlyWindow : Prop :=
  (∀ (s : State) (v : Word) (off : Offset),
    off ∈ [0x00#6, 0x1C#6, 0x20#6, 0x24#6, 0x28#6, 0x2C#6, 0x30#6, 0x34#6, 0x38#6, 0x3C#6] →
    hostWrite off 32 v s = .next s) ∧
  (∀ (s : State) (off : Offset), off ∈ [0x34#6, 0x38#6, 0x3C#6] →
    hostRead off 32 s = .next { s with replies := 0#32 :: s.replies }) ∧
  (∀ (s t : State) (off : Offset) (width : Nat), hostRead off width s = .next t → t.toEngine = s.toEngine) ∧
  (∀ (s : State) (v v' : Word),
    (v &&& 0x7#32 = v' &&& 0x7#32 → hostWrite 0x04#6 32 v s = hostWrite 0x04#6 32 v' s) ∧
    (v &&& 0xFFF#32 = v' &&& 0xFFF#32 → hostWrite 0x08#6 32 v s = hostWrite 0x08#6 32 v' s)) ∧
  (∀ (s : State) (k : Nat), (2 ≤ k → s.ctrlWord.getLsbD k = false) ∧ (12 ≤ k → s.statusWord.getLsbD k = false) ∧
    (16 ≤ k → s.wcfgWord.getLsbD k = false)) ∧
  (∀ s : State, hostRead 0x00#6 32 s = .next { s with replies := 0x48534643#32 :: s.replies } ∧
    hostRead 0x1C#6 32 s = .next { s with replies := s.res0 :: s.replies } ∧
    hostRead 0x20#6 32 s = .next { s with replies := s.res1 :: s.replies } ∧
    hostRead 0x24#6 32 s = .next { s with replies := s.res2 :: s.replies } ∧
    hostRead 0x28#6 32 s = .next { s with replies := s.res3 :: s.replies } ∧
    hostRead 0x2C#6 32 s = .next { s with replies := s.gcnt :: s.replies } ∧
    ∃ r : Word, hostRead 0x30#6 32 s = .next { s with replies := r :: s.replies } ∧
      r.extractLsb' 0 8 = s.wn ∧ r.extractLsb' 8 8 = s.wp ∧ r >>> 16 = 0#32)

/-- An access is answered exactly when it is 32 bits wide at a multiple of 4; every other access is refused
(20_memory.md, section 2, from R65; the names of the two refusals, and that the width is looked at before the alignment,
are the model's choice, log 7). -/
def Obligations.AccessWidthAndAlignment : Prop :=
  ∀ (s : State) (off : Offset) (width : Nat) (v : Word),
    (width = 32 ∧ off.toNat % 4 = 0 → (∃ t, hostRead off width s = .next t) ∧ ∃ t, hostWrite off width v s = .next t) ∧
    (width ≠ 32 → hostRead off width s = .refused (.accessWidth width) ∧
      hostWrite off width v s = .refused (.accessWidth width)) ∧
    (width = 32 ∧ off.toNat % 4 ≠ 0 → hostRead off width s = .refused (.misalignedAccess off) ∧
      hostWrite off width v s = .refused (.misalignedAccess off))

/-- BASE is 64-byte aligned, offset off is at BASE + off, and no address outside the 64 bytes selects the window
(20_memory.md, section 1: R63, and R60 for the 64 bytes; that the other addresses select no offset is the model's reading,
log 6). -/
def Obligations.WindowAddresses : Prop :=
  Config.base % 64 = 0 ∧
  (∀ off : Offset, hostAddress off = Config.base + off.toNat ∧ windowOffset (hostAddress off) = some off) ∧
  (∀ addr off, windowOffset addr = some off → addr = Config.base + off.toNat) ∧
  (∀ addr, addr < Config.base ∨ Config.base + 64 ≤ addr → windowOffset addr = none)

/-- Byte lane j of a word is bits 8j+7..8j, the four lanes in ascending order make the word again, and the decoder of
bytes reads exactly one word (20_memory.md, section 2). -/
def Obligations.LittleEndianLanes : Prop :=
  (∀ (v : Word) (j k : Nat), j < 4 → k < 8 → (byteLane v j).getLsbD k = v.getLsbD (8 * j + k)) ∧
  (∀ v : Word, wordOfLanes (byteLane v 0) (byteLane v 1) (byteLane v 2) (byteLane v 3) = v) ∧
  (∀ (v : Word) (rest : List Byte), decodeBytes (lanesOfWord v ++ rest) = (decode v).map (fun i => (i, rest))) ∧
  (∀ w : Nat, w < 2 ^ 32 → decodeTableWord 32 w = (decode (BitVec.ofNat 32 w)).toOption)

/-- IRQ is CC and (CIE or (EIE and ERR)), STATUS bit 7 reads it, and it is 0 at reset (10_state.md, section 3, from R31; the
clause about reset is the spec's own inference there). -/
def Obligations.IrqLevel : Prop :=
  (∀ e : Engine, e.irq = (e.cc && (e.cie || (e.eie && e.err))) ∧ e.statusWord.getLsbD 7 = e.irq) ∧
  Engine.reset.irq = false

/-- IRQ falls in the step that clears CC, clears the enabling bits, or resets, and a completion with the enable set
raises it (60_exceptions.md, section 3; the spec's own inference, R211). -/
def Obligations.IrqDeassertion : Prop :=
  (∀ (s t : State) (v : Word), v.getLsbD 1 = true → hostWrite 0x08#6 32 v s = .next t → t.irq = false) ∧
  (∀ (s t : State) (v : Word), v.getLsbD 0 = false → v.getLsbD 1 = false → hostWrite 0x04#6 32 v s = .next t →
    t.irq = false) ∧
  (∀ s t : State, takeEvent .reset s = .next t → t.irq = false) ∧
  (∀ (s t : State) (l : Pending), s.busy = true → s.pend = some l → engineTurn s = .next t →
    t.irq = (s.cie || (s.eie && t.err)))

/-! ### Completions, errors and frames over all commands -/

/-- The validation of (n, p): its four cases, in order (60_exceptions.md R204). It is stated for every integer pair, as the
rule's `CheckNP` is; pairs outside a byte reach it from no command word (log 13). -/
def Obligations.CheckNPOrder : Prop :=
  ∀ n p : Int,
    (n ≠ 2 ∧ n ≠ 3 → ∀ unit, checkNP unit n p = some .invalidDimension) ∧
    (n = 2 ∨ n = 3 →
      (p < 0 → ∀ unit, checkNP unit n p = some .invalidPrecision) ∧
      (0 ≤ p → 32 < n * p → checkNP .skilling n p = some .arithmeticOverflow ∧
        checkNP .other n p = some .invalidPrecision) ∧
      (0 ≤ p → n * p ≤ 32 → ∀ unit, checkNP unit n p = none)) ∧
    (∀ (s : State) (l : Pending) (e : ErrorKind), s.pend = some l →
      (checkNP .skilling n p = some e → exec (.skil n p) s = .next (failedWith e.code s)) ∧
      (checkNP .other n p = some e → exec (.dec n p) s = .next (failedWith e.code s) ∧
        exec (.enc n p) s = .next (failedWith e.code s) ∧ exec (.wstart n p) s = .next (failedWith e.code s)))

/-- Every pending command ends, in one engine turn, in exactly one completion: a success, which reports 0, or a failure,
which changes BUSY, CC, ERR, ECODE and PEND only and reports a code from 1 to 5 (60_exceptions.md, sections 1 and 2). -/
def Obligations.OneCompletion : Prop :=
  ∀ (s : State) (l : Pending), s.busy = true → s.pend = some l →
    ∃ t, engineTurn s = .next t ∧ t.busy = false ∧ t.pend = none ∧ t.cc = true ∧
      ((t.err = false ∧ t.ecode = 0#4) ∨
       (t.err = true ∧ 1 ≤ t.ecode.toNat ∧ t.ecode.toNat ≤ 5 ∧ t = failedWith t.ecode s))

/-- The five codes, and which commands can report which (60_exceptions.md, section 2). -/
def Obligations.CodesByCommand : Prop :=
  (ErrorKind.code .invalidDimension = 1#4 ∧ ErrorKind.code .invalidPrecision = 2#4 ∧
    ErrorKind.code .arithmeticOverflow = 3#4 ∧ ErrorKind.code .illegalCommand = 4#4 ∧
    ErrorKind.code .sequenceError = 5#4) ∧
  ∀ (i : Instr) (s t : State), exec i s = .next t →
    (t.ecode = 0#4 ↔ t.err = false) ∧
    (t.ecode = 1#4 → ∃ n p, n ≠ 2 ∧ n ≠ 3 ∧ (i = .skil n p ∨ i = .dec n p ∨ i = .enc n p ∨ i = .wstart n p)) ∧
    (t.ecode = 2#4 → ∃ n p, (p < 0 ∧ (i = .skil n p ∨ i = .dec n p ∨ i = .enc n p ∨ i = .wstart n p)) ∨
      (32 < n * p ∧ (i = .dec n p ∨ i = .enc n p ∨ i = .wstart n p))) ∧
    (t.ecode = 3#4 → ∃ n p, 32 < n * p ∧ i = .skil n p) ∧
    t.ecode ≠ 4#4 ∧
    (t.ecode = 5#4 → (i = .wstep ∧ s.active = false) ∨
      (s.active = true ∧ (i = .gnext ∨ i = .grst ∨ i = .gload))) ∧
    t.ecode.toNat ≤ 5

/-- The outcome of a completion depends only on the latch, GCNT and the walk state (60_exceptions.md, section 1; the
spec's own inference, in R200). -/
def Obligations.OutcomeDependsOnLatch : Prop :=
  ∀ (i : Instr) (s s' t t' : State), s.pend = s'.pend → s.gcnt = s'.gcnt → s.wn = s'.wn → s.wp = s'.wp →
    s.active = s'.active → exec i s = .next t → exec i s' = .next t' →
    t.err = t'.err ∧ t.ecode = t'.ecode ∧ t.gcnt = t'.gcnt ∧ t.wn = t'.wn ∧ t.wp = t'.wp ∧ t.active = t'.active ∧
    ((t.res0 = t'.res0 ∧ t.res1 = t'.res1 ∧ t.res2 = t'.res2 ∧ t.res3 = t'.res3) ∨
     (t.res0 = s.res0 ∧ t.res1 = s.res1 ∧ t.res2 = s.res2 ∧ t.res3 = s.res3 ∧
      t'.res0 = s'.res0 ∧ t'.res1 = s'.res1 ∧ t'.res2 = s'.res2 ∧ t'.res3 = s'.res3))

/-- RES0 to RES3 change only in the step in which a result-producing command succeeds or the engine is reset
(10_state.md, section 2, from R27). -/
def Obligations.ResultsFrame : Prop :=
  (∀ (i : Instr) (s t : State), exec i s = .next t →
    (t.err = true ∨ i ∈ [Instr.nop, .grst, .gload, .wstop] ∨ ∃ n p, i = .wstart n p) →
    t.res0 = s.res0 ∧ t.res1 = s.res1 ∧ t.res2 = s.res2 ∧ t.res3 = s.res3) ∧
  (∀ s t : State, step s = .next t →
    (t.res0 = s.res0 ∧ t.res1 = s.res1 ∧ t.res2 = s.res2 ∧ t.res3 = s.res3) ∨ ResetStep s t ∨
    ∃ i, SuccessOf i s t ∧
      (i ∈ [Instr.gray, .ginv, .gnext, .wstep] ∨ ∃ n p, i = .skil n p ∨ i = .dec n p ∨ i = .enc n p))

/-- GCNT and the walk state change only at the completion of the commands that own them, or at reset
(70_reset_and_hazards.md, section 2; 10_state.md, section 2). -/
def Obligations.GcntAndWalkFrame : Prop :=
  ∀ s t : State, step s = .next t → ResetStep s t ∨
    ((t.gcnt ≠ s.gcnt → ∃ i, SuccessOf i s t ∧
        (i ∈ [Instr.gnext, .grst, .gload, .wstep] ∨ ∃ n p, i = .wstart n p)) ∧
     (t.wn ≠ s.wn ∨ t.wp ≠ s.wp → ∃ n p, SuccessOf (.wstart n p) s t) ∧
     (t.active ≠ s.active → ∃ i, SuccessOf i s t ∧ (i ∈ [Instr.wstep, .wstop] ∨ ∃ n p, i = .wstart n p)))

/-- The sticky bits: no step but a STATUS write with that bit set, a successful WSTART (for DONE) or a reset ever clears one
(10_state.md, section 2). -/
def Obligations.StickyBits : Prop :=
  ∀ s t : State, step s = .next t → ResetStep s t ∨
    ((s.cc = true → t.cc = true ∨ ClearsStatusBit 1 s) ∧
      (s.done = true → t.done = true ∨ ClearsStatusBit 3 s ∨ ∃ n p, SuccessOf (.wstart n p) s t) ∧
      (s.wrap = true → t.wrap = true ∨ ClearsStatusBit 5 s) ∧
      (s.ovr = true → t.ovr = true ∨ ClearsStatusBit 6 s))

/-! ### Reset -/

/-- `Reset` sets every piece of state to the value of the table, whatever it was (70_reset_and_hazards.md R241). -/
def Obligations.ResetValues : Prop :=
  (∀ s : State, takeEvent .reset s = .next { s with toEngine := State.reset.toEngine }) ∧
  (∀ e : Engine, e = State.reset.toEngine ↔
    e.cie = false ∧ e.eie = false ∧ e.busy = false ∧ e.cc = false ∧ e.err = false ∧ e.done = false ∧
    e.active = false ∧ e.wrap = false ∧ e.ovr = false ∧ e.ecode = 0#4 ∧ e.cmd = 0#32 ∧
    e.opa = 0#32 ∧ e.opb = 0#32 ∧ e.opc = 0#32 ∧ e.res0 = 0#32 ∧ e.res1 = 0#32 ∧ e.res2 = 0#32 ∧ e.res3 = 0#32 ∧
    e.gcnt = 0#32 ∧ e.wn = 0#8 ∧ e.wp = 0#8 ∧ e.pend = none) ∧
  State.reset.irq = false ∧ State.reset.statusWord = 0#32 ∧
  (∀ e : Engine, e.regRead .id = 0x48534643#32)

/-- A reset of either kind, in any state: the engine is at its reset values, a pending command is discarded and never
completes (70_reset_and_hazards.md, section 1, from R243; 10_state.md, section 2). The schedule is the model's choice (log 1),
that a reset keeps it too (log 10), and that an idle engine's turn does nothing is the model's reading (log 4). -/
def Obligations.ResetDiscardsPending : Prop :=
  ∀ (s : State) (rest : List Event),
    (s.inputs = .reset :: rest → step s = .next { s with toEngine := Engine.reset, inputs := rest }) ∧
    (∀ v : Word, v.getLsbD 2 = true → s.inputs = .write 0x04#6 32 v :: rest →
      step s = .next { s with toEngine := Engine.reset, inputs := rest }) ∧
    engineTurn { s with toEngine := Engine.reset } = .next { s with toEngine := Engine.reset }

/-! ### Invariants -/

/-- Every step keeps the four invariants, in every state that has them and with every schedule (10_state.md, section 5; the
spec's own inference, R36). -/
def Obligations.InvariantKept : Prop :=
  ∀ s t : State, EngineInvariant s.toEngine → step s = .next t → EngineInvariant t.toEngine

/-- Both invariants hold after reset (70_reset_and_hazards.md, section 1). -/
def Obligations.InvariantsAtReset : Prop :=
  EngineInvariant State.reset.toEngine ∧ WalkConfigValid State.reset.toEngine ∧ CodeAssigned State.reset.toEngine

/-- Every step keeps WCFG empty or a valid pair, and ECODE an assigned code (10_state.md, section 2; 60_exceptions.md,
section 2). -/
def Obligations.ConfigInvariantKept : Prop :=
  ∀ s t : State, WalkConfigValid s.toEngine → CodeAssigned s.toEngine → step s = .next t →
    WalkConfigValid t.toEngine ∧ CodeAssigned t.toEngine

/-! ### Interleaving, latency and progress -/

/-- A command computes from its latched operands: rewriting OPA, OPB and OPC before its completion changes nothing but
those registers (70_reset_and_hazards.md, section 2; 10_state.md, section 3). -/
def Obligations.OperandsAreLatched : Prop :=
  ∀ (s t : State) (a b c : Word), s.busy = true → s.pend.isSome → engineTurn s = .next t →
    engineTurn { s with opa := a, opb := b, opc := c } = .next { t with opa := a, opb := b, opc := c }

/-- How many reads and operand writes fall between acceptance and completion leaves the engine the same
(70_reset_and_hazards.md, sections 2 and 3; the schedule that stands for the latency is the model's choice, log 1). -/
def Obligations.LatencyInvisible : Prop :=
  ∀ (s : State) (es : List Event), (∀ e ∈ es, quietEvent e = true) → s.busy = true → s.pend.isSome →
    ∃ t u : State, Host.Core.run Sys2Proof.core (es.length + 1) { s with inputs := .engine :: es } = .next t ∧
      Host.Core.run Sys2Proof.core (es.length + 1) { s with inputs := es ++ [.engine] } = .next u ∧
      t.toEngine = u.toEngine

/-- An accepted command completes after finitely many steps: once every scheduled event has been taken, one more step
leaves the engine idle (70_reset_and_hazards.md, section 2; that the engine moves when nothing else is scheduled is the
model's choice, log 3). -/
def Obligations.CommandsComplete : Prop :=
  ∀ s : State, s.busy = s.pend.isSome → (∀ e ∈ s.inputs, legalEvent e = true) →
    ∃ t : State, Host.Core.run Sys2Proof.core (s.inputs.length + 1) s = .next t ∧ t.inputs = [] ∧ t.busy = false ∧
      t.pend = none

/-! ### The walk -/

/-- The k-th WSTEP after a WSTART reads GCNT = k and gives vertex k; the last one ends the walk
(43_walk.md, section 2; the spec's own inference, R184 items 1 and 5). -/
def Obligations.WalkProducesVertices : Prop :=
  ∀ (s : State) (n p k : Nat), s.busy = false → ValidPair n p → k < 2 ^ (n * p) →
    ∃ s0 u t, runCommand (encode (.wstart n p)) s = .next s0 ∧ runWsteps k s0 = .next u ∧
      u.gcnt = BitVec.ofNat 32 k ∧ u.active = true ∧ runWsteps (k + 1) s0 = .next t ∧
      t.err = false ∧ t.res0 = walkVertex n p k 0 ∧ t.res1 = walkVertex n p k 1 ∧
      t.res2 = (if n = 3 then walkVertex n p k 2 else 0#32) ∧
      t.res3 = skilling (gray (BitVec.ofNat 32 k)) n p ∧
      (k + 1 = 2 ^ (n * p) → t.done = true ∧ t.active = false ∧ t.gcnt = 0#32) ∧
      (k + 1 ≠ 2 ^ (n * p) → t.done = false ∧ t.active = true)

/-- A walk starts at the origin and visits every cell of the grid exactly once (43_walk.md, section 2; the spec's own inference,
R184 items 2 and 3). -/
def Obligations.WalkVisitsEveryCell : Prop :=
  ∀ n p : Nat, ValidPair n p →
    (∀ a < n, walkVertex n p 0 a = 0#32) ∧
    (∀ k a, k < 2 ^ (n * p) → a < n → (walkVertex n p k a).toNat < 2 ^ p) ∧
    (∀ k k', k < 2 ^ (n * p) → k' < 2 ^ (n * p) → (∀ a < n, walkVertex n p k a = walkVertex n p k' a) → k = k') ∧
    (∀ c0 c1 c2 : Word, c0.toNat < 2 ^ p → c1.toNat < 2 ^ p → c2.toNat < 2 ^ p →
      ∃ k < 2 ^ (n * p), walkVertex n p k 0 = c0 ∧ walkVertex n p k 1 = c1 ∧ (n = 3 → walkVertex n p k 2 = c2))

/-- Consecutive vertices differ by 1 along exactly one axis, for every valid pair (43_walk.md, section 2, R184 item 4; the
spec has checked small sizes only, 93_implementation_defined.md I10). -/
def Obligations.WalkIsAdjacent : Prop :=
  ∀ n p k : Nat, ValidPair n p → k + 1 < 2 ^ (n * p) →
    ∃ a < n, distanceOne (walkVertex n p k a) (walkVertex n p (k + 1) a) = true ∧
      ∀ b < n, b ≠ a → walkVertex n p k b = walkVertex n p (k + 1) b
end

