-- ==== Sys2Proof/Laws/Bits.lean ====
section
/-! SUPPORT. What the single-bit operations do to each bit of a word, and where the lanes lie. -/

namespace Sys2Proof.Machine

@[simp] theorem bit_getLsbD (k i : Nat) : (bit k).getLsbD i = (decide (i < 32) && decide (i = k)) := by
  by_cases h : i = k <;> simp [bit, h]
  omega

@[simp] theorem mask_getLsbD (k i : Nat) : (mask k).getLsbD i = (decide (i < 32) && decide (i < k)) := by
  simp [mask, BitVec.getLsbD_ofNat, Nat.testBit_two_pow_sub_one]

theorem invertBit_getLsbD (u : Word) (k i : Nat) :
    (invertBit u k).getLsbD i = (u.getLsbD i ^^ (decide (i < 32) && decide (i = k))) := by
  simp [invertBit]

theorem orBit_getLsbD (u : Word) (k i : Nat) (b : Bool) :
    (orBit u k b).getLsbD i = (u.getLsbD i || (b && decide (i < 32) && decide (i = k))) := by
  cases b <;> simp [orBit]

/-- A swap reads the other position at `j` and `k` and leaves every other bit (00_scope.md R13). -/
theorem swapBits_getLsbD (u : Word) {j k : Nat} (hj : j < 32) (hk : k < 32) (i : Nat) :
    (swapBits u j k).getLsbD i =
      if i = j then u.getLsbD k else if i = k then u.getLsbD j else u.getLsbD i := by
  unfold swapBits
  split
  · split_ifs <;> simp_all
  · rename_i h
    rw [invertBit_getLsbD, invertBit_getLsbD]
    split_ifs with h1 h2
    · subst h1
      have : i ≠ k := fun e => h (e ▸ rfl)
      cases hu : u.getLsbD i <;> cases hv : u.getLsbD k <;> simp_all
    · subst h2
      cases hu : u.getLsbD i <;> cases hv : u.getLsbD j <;> simp_all
    · simp [h1, h2]

/-- The level of a lane position. -/
theorem pos_div {n L a : Nat} (hn : 0 < n) : pos n L a / n = L := by
  unfold pos
  rw [Nat.mul_comm, Nat.mul_add_div hn, Nat.div_eq_of_lt (by omega), Nat.add_zero]

/-- The axis of a lane position (00_scope.md R14). -/
theorem axis_pos {n L a : Nat} (ha : a < n) : axis n (pos n L a) = a := by
  unfold axis pos
  rw [Nat.mul_comm, Nat.mul_add_mod, Nat.mod_eq_of_lt (by omega)]
  omega

/-- Every bit weight is the lane position of its own level and axis (00_scope.md R14). -/
theorem pos_axis {n k : Nat} (hn : 0 < n) : pos n (k / n) (axis n k) = k := by
  have h := Nat.mod_lt k hn
  unfold pos axis
  rw [show n - 1 - (n - 1 - k % n) = k % n by omega, Nat.mul_comm]
  exact Nat.div_add_mod k n

/-- Different levels or axes have different positions. -/
theorem pos_inj {n L L' a a' : Nat} (ha : a < n) (ha' : a' < n) (h : pos n L a = pos n L' a') :
    L = L' ∧ a = a' := by
  have hn : 0 < n := by omega
  have hL := congrArg (· / n) h
  have hx := congrArg (axis n) h
  exact ⟨by simpa only [pos_div hn] using hL, by simpa only [axis_pos ha, axis_pos ha'] using hx⟩

/-- A lane position of a level below `p` lies inside the layout of n*p bits. -/
theorem pos_lt {n L a p : Nat} (ha : a < n) (hL : L < p) : pos n L a < n * p := by
  unfold pos
  have : (L + 1) * n ≤ p * n := Nat.mul_le_mul_right n hL
  rw [Nat.mul_comm n p]
  rw [Nat.add_mul, Nat.one_mul] at this
  omega

end Sys2Proof.Machine
end

