-- ==== Sys2Proof/Laws/Flags.lean ====
section
/-! SUPPORT. The bits of the STATUS word, and the range of the error codes. -/

namespace Sys2Proof.Machine

/-- Where each field of STATUS stands below bit 8 (10_state.md R23). -/
theorem Engine.statusWord_bits (e : Engine) :
    e.statusWord.getLsbD 0 = e.busy ∧ e.statusWord.getLsbD 1 = e.cc ∧ e.statusWord.getLsbD 2 = e.err ∧
    e.statusWord.getLsbD 3 = e.done ∧ e.statusWord.getLsbD 4 = e.active ∧ e.statusWord.getLsbD 5 = e.wrap ∧
    e.statusWord.getLsbD 6 = e.ovr ∧ e.statusWord.getLsbD 7 = e.irq := by
  simp only [Engine.statusWord, BitVec.getLsbD_append]
  simp

/-- No error has code 0 (10_state.md R23: ERR = 1 exactly when ECODE is not 0). -/
theorem ErrorKind.code_ne_zero (e : ErrorKind) : e.code ≠ 0#4 := by cases e <;> decide

/-- The assigned codes are 1 to 5 (60_exceptions.md R203). -/
theorem ErrorKind.code_range (e : ErrorKind) : 1 ≤ e.code.toNat ∧ e.code.toNat ≤ 5 := by cases e <;> decide

end Sys2Proof.Machine
end

