-- ==== Sys2Proof/Laws/State.lean ====
section
/-! SUPPORT. What each named update of the state does to each field: one lemma per field per update, all by `rfl`,
so that no later proof unfolds an update. -/

namespace Sys2Proof.Machine

@[simp] theorem State.succeed_cie (s : State) : s.succeed.cie = s.cie := rfl
@[simp] theorem State.succeed_eie (s : State) : s.succeed.eie = s.eie := rfl
@[simp] theorem State.succeed_busy (s : State) : s.succeed.busy = false := rfl
@[simp] theorem State.succeed_cc (s : State) : s.succeed.cc = true := rfl
@[simp] theorem State.succeed_err (s : State) : s.succeed.err = false := rfl
@[simp] theorem State.succeed_done (s : State) : s.succeed.done = s.done := rfl
@[simp] theorem State.succeed_active (s : State) : s.succeed.active = s.active := rfl
@[simp] theorem State.succeed_wrap (s : State) : s.succeed.wrap = s.wrap := rfl
@[simp] theorem State.succeed_ovr (s : State) : s.succeed.ovr = s.ovr := rfl
@[simp] theorem State.succeed_ecode (s : State) : s.succeed.ecode = 0#4 := rfl
@[simp] theorem State.succeed_cmd (s : State) : s.succeed.cmd = s.cmd := rfl
@[simp] theorem State.succeed_opa (s : State) : s.succeed.opa = s.opa := rfl
@[simp] theorem State.succeed_opb (s : State) : s.succeed.opb = s.opb := rfl
@[simp] theorem State.succeed_opc (s : State) : s.succeed.opc = s.opc := rfl
@[simp] theorem State.succeed_res0 (s : State) : s.succeed.res0 = s.res0 := rfl
@[simp] theorem State.succeed_res1 (s : State) : s.succeed.res1 = s.res1 := rfl
@[simp] theorem State.succeed_res2 (s : State) : s.succeed.res2 = s.res2 := rfl
@[simp] theorem State.succeed_res3 (s : State) : s.succeed.res3 = s.res3 := rfl
@[simp] theorem State.succeed_gcnt (s : State) : s.succeed.gcnt = s.gcnt := rfl
@[simp] theorem State.succeed_wn (s : State) : s.succeed.wn = s.wn := rfl
@[simp] theorem State.succeed_wp (s : State) : s.succeed.wp = s.wp := rfl
@[simp] theorem State.succeed_pend (s : State) : s.succeed.pend = none := rfl
@[simp] theorem State.succeed_inputs (s : State) : s.succeed.inputs = s.inputs := rfl
@[simp] theorem State.succeed_replies (s : State) : s.succeed.replies = s.replies := rfl

@[simp] theorem State.fail_cie (e : ErrorKind) (s : State) : (s.fail e).cie = s.cie := rfl
@[simp] theorem State.fail_eie (e : ErrorKind) (s : State) : (s.fail e).eie = s.eie := rfl
@[simp] theorem State.fail_busy (e : ErrorKind) (s : State) : (s.fail e).busy = false := rfl
@[simp] theorem State.fail_cc (e : ErrorKind) (s : State) : (s.fail e).cc = true := rfl
@[simp] theorem State.fail_err (e : ErrorKind) (s : State) : (s.fail e).err = true := rfl
@[simp] theorem State.fail_done (e : ErrorKind) (s : State) : (s.fail e).done = s.done := rfl
@[simp] theorem State.fail_active (e : ErrorKind) (s : State) : (s.fail e).active = s.active := rfl
@[simp] theorem State.fail_wrap (e : ErrorKind) (s : State) : (s.fail e).wrap = s.wrap := rfl
@[simp] theorem State.fail_ovr (e : ErrorKind) (s : State) : (s.fail e).ovr = s.ovr := rfl
@[simp] theorem State.fail_ecode (e : ErrorKind) (s : State) : (s.fail e).ecode = e.code := rfl
@[simp] theorem State.fail_cmd (e : ErrorKind) (s : State) : (s.fail e).cmd = s.cmd := rfl
@[simp] theorem State.fail_opa (e : ErrorKind) (s : State) : (s.fail e).opa = s.opa := rfl
@[simp] theorem State.fail_opb (e : ErrorKind) (s : State) : (s.fail e).opb = s.opb := rfl
@[simp] theorem State.fail_opc (e : ErrorKind) (s : State) : (s.fail e).opc = s.opc := rfl
@[simp] theorem State.fail_res0 (e : ErrorKind) (s : State) : (s.fail e).res0 = s.res0 := rfl
@[simp] theorem State.fail_res1 (e : ErrorKind) (s : State) : (s.fail e).res1 = s.res1 := rfl
@[simp] theorem State.fail_res2 (e : ErrorKind) (s : State) : (s.fail e).res2 = s.res2 := rfl
@[simp] theorem State.fail_res3 (e : ErrorKind) (s : State) : (s.fail e).res3 = s.res3 := rfl
@[simp] theorem State.fail_gcnt (e : ErrorKind) (s : State) : (s.fail e).gcnt = s.gcnt := rfl
@[simp] theorem State.fail_wn (e : ErrorKind) (s : State) : (s.fail e).wn = s.wn := rfl
@[simp] theorem State.fail_wp (e : ErrorKind) (s : State) : (s.fail e).wp = s.wp := rfl
@[simp] theorem State.fail_pend (e : ErrorKind) (s : State) : (s.fail e).pend = none := rfl
@[simp] theorem State.fail_inputs (e : ErrorKind) (s : State) : (s.fail e).inputs = s.inputs := rfl
@[simp] theorem State.fail_replies (e : ErrorKind) (s : State) : (s.fail e).replies = s.replies := rfl

@[simp] theorem State.writeResults_cie (r0 r1 r2 r3 : Word) (s : State) : (s.writeResults r0 r1 r2 r3).cie = s.cie := rfl
@[simp] theorem State.writeResults_eie (r0 r1 r2 r3 : Word) (s : State) : (s.writeResults r0 r1 r2 r3).eie = s.eie := rfl
@[simp] theorem State.writeResults_busy (r0 r1 r2 r3 : Word) (s : State) : (s.writeResults r0 r1 r2 r3).busy = s.busy := rfl
@[simp] theorem State.writeResults_cc (r0 r1 r2 r3 : Word) (s : State) : (s.writeResults r0 r1 r2 r3).cc = s.cc := rfl
@[simp] theorem State.writeResults_err (r0 r1 r2 r3 : Word) (s : State) : (s.writeResults r0 r1 r2 r3).err = s.err := rfl
@[simp] theorem State.writeResults_done (r0 r1 r2 r3 : Word) (s : State) : (s.writeResults r0 r1 r2 r3).done = s.done := rfl
@[simp] theorem State.writeResults_active (r0 r1 r2 r3 : Word) (s : State) : (s.writeResults r0 r1 r2 r3).active = s.active := rfl
@[simp] theorem State.writeResults_wrap (r0 r1 r2 r3 : Word) (s : State) : (s.writeResults r0 r1 r2 r3).wrap = s.wrap := rfl
@[simp] theorem State.writeResults_ovr (r0 r1 r2 r3 : Word) (s : State) : (s.writeResults r0 r1 r2 r3).ovr = s.ovr := rfl
@[simp] theorem State.writeResults_ecode (r0 r1 r2 r3 : Word) (s : State) : (s.writeResults r0 r1 r2 r3).ecode = s.ecode := rfl
@[simp] theorem State.writeResults_cmd (r0 r1 r2 r3 : Word) (s : State) : (s.writeResults r0 r1 r2 r3).cmd = s.cmd := rfl
@[simp] theorem State.writeResults_opa (r0 r1 r2 r3 : Word) (s : State) : (s.writeResults r0 r1 r2 r3).opa = s.opa := rfl
@[simp] theorem State.writeResults_opb (r0 r1 r2 r3 : Word) (s : State) : (s.writeResults r0 r1 r2 r3).opb = s.opb := rfl
@[simp] theorem State.writeResults_opc (r0 r1 r2 r3 : Word) (s : State) : (s.writeResults r0 r1 r2 r3).opc = s.opc := rfl
@[simp] theorem State.writeResults_res0 (r0 r1 r2 r3 : Word) (s : State) : (s.writeResults r0 r1 r2 r3).res0 = r0 := rfl
@[simp] theorem State.writeResults_res1 (r0 r1 r2 r3 : Word) (s : State) : (s.writeResults r0 r1 r2 r3).res1 = r1 := rfl
@[simp] theorem State.writeResults_res2 (r0 r1 r2 r3 : Word) (s : State) : (s.writeResults r0 r1 r2 r3).res2 = r2 := rfl
@[simp] theorem State.writeResults_res3 (r0 r1 r2 r3 : Word) (s : State) : (s.writeResults r0 r1 r2 r3).res3 = r3 := rfl
@[simp] theorem State.writeResults_gcnt (r0 r1 r2 r3 : Word) (s : State) : (s.writeResults r0 r1 r2 r3).gcnt = s.gcnt := rfl
@[simp] theorem State.writeResults_wn (r0 r1 r2 r3 : Word) (s : State) : (s.writeResults r0 r1 r2 r3).wn = s.wn := rfl
@[simp] theorem State.writeResults_wp (r0 r1 r2 r3 : Word) (s : State) : (s.writeResults r0 r1 r2 r3).wp = s.wp := rfl
@[simp] theorem State.writeResults_pend (r0 r1 r2 r3 : Word) (s : State) : (s.writeResults r0 r1 r2 r3).pend = s.pend := rfl
@[simp] theorem State.writeResults_inputs (r0 r1 r2 r3 : Word) (s : State) : (s.writeResults r0 r1 r2 r3).inputs = s.inputs := rfl
@[simp] theorem State.writeResults_replies (r0 r1 r2 r3 : Word) (s : State) : (s.writeResults r0 r1 r2 r3).replies = s.replies := rfl

@[simp] theorem State.writeGcnt_cie (v : Word) (s : State) : (s.writeGcnt v).cie = s.cie := rfl
@[simp] theorem State.writeGcnt_eie (v : Word) (s : State) : (s.writeGcnt v).eie = s.eie := rfl
@[simp] theorem State.writeGcnt_busy (v : Word) (s : State) : (s.writeGcnt v).busy = s.busy := rfl
@[simp] theorem State.writeGcnt_cc (v : Word) (s : State) : (s.writeGcnt v).cc = s.cc := rfl
@[simp] theorem State.writeGcnt_err (v : Word) (s : State) : (s.writeGcnt v).err = s.err := rfl
@[simp] theorem State.writeGcnt_done (v : Word) (s : State) : (s.writeGcnt v).done = s.done := rfl
@[simp] theorem State.writeGcnt_active (v : Word) (s : State) : (s.writeGcnt v).active = s.active := rfl
@[simp] theorem State.writeGcnt_wrap (v : Word) (s : State) : (s.writeGcnt v).wrap = s.wrap := rfl
@[simp] theorem State.writeGcnt_ovr (v : Word) (s : State) : (s.writeGcnt v).ovr = s.ovr := rfl
@[simp] theorem State.writeGcnt_ecode (v : Word) (s : State) : (s.writeGcnt v).ecode = s.ecode := rfl
@[simp] theorem State.writeGcnt_cmd (v : Word) (s : State) : (s.writeGcnt v).cmd = s.cmd := rfl
@[simp] theorem State.writeGcnt_opa (v : Word) (s : State) : (s.writeGcnt v).opa = s.opa := rfl
@[simp] theorem State.writeGcnt_opb (v : Word) (s : State) : (s.writeGcnt v).opb = s.opb := rfl
@[simp] theorem State.writeGcnt_opc (v : Word) (s : State) : (s.writeGcnt v).opc = s.opc := rfl
@[simp] theorem State.writeGcnt_res0 (v : Word) (s : State) : (s.writeGcnt v).res0 = s.res0 := rfl
@[simp] theorem State.writeGcnt_res1 (v : Word) (s : State) : (s.writeGcnt v).res1 = s.res1 := rfl
@[simp] theorem State.writeGcnt_res2 (v : Word) (s : State) : (s.writeGcnt v).res2 = s.res2 := rfl
@[simp] theorem State.writeGcnt_res3 (v : Word) (s : State) : (s.writeGcnt v).res3 = s.res3 := rfl
@[simp] theorem State.writeGcnt_gcnt (v : Word) (s : State) : (s.writeGcnt v).gcnt = v := rfl
@[simp] theorem State.writeGcnt_wn (v : Word) (s : State) : (s.writeGcnt v).wn = s.wn := rfl
@[simp] theorem State.writeGcnt_wp (v : Word) (s : State) : (s.writeGcnt v).wp = s.wp := rfl
@[simp] theorem State.writeGcnt_pend (v : Word) (s : State) : (s.writeGcnt v).pend = s.pend := rfl
@[simp] theorem State.writeGcnt_inputs (v : Word) (s : State) : (s.writeGcnt v).inputs = s.inputs := rfl
@[simp] theorem State.writeGcnt_replies (v : Word) (s : State) : (s.writeGcnt v).replies = s.replies := rfl

@[simp] theorem State.noteWrap_cie (b : Bool) (s : State) : (s.noteWrap b).cie = s.cie := rfl
@[simp] theorem State.noteWrap_eie (b : Bool) (s : State) : (s.noteWrap b).eie = s.eie := rfl
@[simp] theorem State.noteWrap_busy (b : Bool) (s : State) : (s.noteWrap b).busy = s.busy := rfl
@[simp] theorem State.noteWrap_cc (b : Bool) (s : State) : (s.noteWrap b).cc = s.cc := rfl
@[simp] theorem State.noteWrap_err (b : Bool) (s : State) : (s.noteWrap b).err = s.err := rfl
@[simp] theorem State.noteWrap_done (b : Bool) (s : State) : (s.noteWrap b).done = s.done := rfl
@[simp] theorem State.noteWrap_active (b : Bool) (s : State) : (s.noteWrap b).active = s.active := rfl
@[simp] theorem State.noteWrap_wrap (b : Bool) (s : State) : (s.noteWrap b).wrap = (s.wrap || b) := rfl
@[simp] theorem State.noteWrap_ovr (b : Bool) (s : State) : (s.noteWrap b).ovr = s.ovr := rfl
@[simp] theorem State.noteWrap_ecode (b : Bool) (s : State) : (s.noteWrap b).ecode = s.ecode := rfl
@[simp] theorem State.noteWrap_cmd (b : Bool) (s : State) : (s.noteWrap b).cmd = s.cmd := rfl
@[simp] theorem State.noteWrap_opa (b : Bool) (s : State) : (s.noteWrap b).opa = s.opa := rfl
@[simp] theorem State.noteWrap_opb (b : Bool) (s : State) : (s.noteWrap b).opb = s.opb := rfl
@[simp] theorem State.noteWrap_opc (b : Bool) (s : State) : (s.noteWrap b).opc = s.opc := rfl
@[simp] theorem State.noteWrap_res0 (b : Bool) (s : State) : (s.noteWrap b).res0 = s.res0 := rfl
@[simp] theorem State.noteWrap_res1 (b : Bool) (s : State) : (s.noteWrap b).res1 = s.res1 := rfl
@[simp] theorem State.noteWrap_res2 (b : Bool) (s : State) : (s.noteWrap b).res2 = s.res2 := rfl
@[simp] theorem State.noteWrap_res3 (b : Bool) (s : State) : (s.noteWrap b).res3 = s.res3 := rfl
@[simp] theorem State.noteWrap_gcnt (b : Bool) (s : State) : (s.noteWrap b).gcnt = s.gcnt := rfl
@[simp] theorem State.noteWrap_wn (b : Bool) (s : State) : (s.noteWrap b).wn = s.wn := rfl
@[simp] theorem State.noteWrap_wp (b : Bool) (s : State) : (s.noteWrap b).wp = s.wp := rfl
@[simp] theorem State.noteWrap_pend (b : Bool) (s : State) : (s.noteWrap b).pend = s.pend := rfl
@[simp] theorem State.noteWrap_inputs (b : Bool) (s : State) : (s.noteWrap b).inputs = s.inputs := rfl
@[simp] theorem State.noteWrap_replies (b : Bool) (s : State) : (s.noteWrap b).replies = s.replies := rfl

@[simp] theorem State.startWalk_cie (wn wp : Byte) (s : State) : (s.startWalk wn wp).cie = s.cie := rfl
@[simp] theorem State.startWalk_eie (wn wp : Byte) (s : State) : (s.startWalk wn wp).eie = s.eie := rfl
@[simp] theorem State.startWalk_busy (wn wp : Byte) (s : State) : (s.startWalk wn wp).busy = s.busy := rfl
@[simp] theorem State.startWalk_cc (wn wp : Byte) (s : State) : (s.startWalk wn wp).cc = s.cc := rfl
@[simp] theorem State.startWalk_err (wn wp : Byte) (s : State) : (s.startWalk wn wp).err = s.err := rfl
@[simp] theorem State.startWalk_done (wn wp : Byte) (s : State) : (s.startWalk wn wp).done = false := rfl
@[simp] theorem State.startWalk_active (wn wp : Byte) (s : State) : (s.startWalk wn wp).active = true := rfl
@[simp] theorem State.startWalk_wrap (wn wp : Byte) (s : State) : (s.startWalk wn wp).wrap = s.wrap := rfl
@[simp] theorem State.startWalk_ovr (wn wp : Byte) (s : State) : (s.startWalk wn wp).ovr = s.ovr := rfl
@[simp] theorem State.startWalk_ecode (wn wp : Byte) (s : State) : (s.startWalk wn wp).ecode = s.ecode := rfl
@[simp] theorem State.startWalk_cmd (wn wp : Byte) (s : State) : (s.startWalk wn wp).cmd = s.cmd := rfl
@[simp] theorem State.startWalk_opa (wn wp : Byte) (s : State) : (s.startWalk wn wp).opa = s.opa := rfl
@[simp] theorem State.startWalk_opb (wn wp : Byte) (s : State) : (s.startWalk wn wp).opb = s.opb := rfl
@[simp] theorem State.startWalk_opc (wn wp : Byte) (s : State) : (s.startWalk wn wp).opc = s.opc := rfl
@[simp] theorem State.startWalk_res0 (wn wp : Byte) (s : State) : (s.startWalk wn wp).res0 = s.res0 := rfl
@[simp] theorem State.startWalk_res1 (wn wp : Byte) (s : State) : (s.startWalk wn wp).res1 = s.res1 := rfl
@[simp] theorem State.startWalk_res2 (wn wp : Byte) (s : State) : (s.startWalk wn wp).res2 = s.res2 := rfl
@[simp] theorem State.startWalk_res3 (wn wp : Byte) (s : State) : (s.startWalk wn wp).res3 = s.res3 := rfl
@[simp] theorem State.startWalk_gcnt (wn wp : Byte) (s : State) : (s.startWalk wn wp).gcnt = 0#32 := rfl
@[simp] theorem State.startWalk_wn (wn wp : Byte) (s : State) : (s.startWalk wn wp).wn = wn := rfl
@[simp] theorem State.startWalk_wp (wn wp : Byte) (s : State) : (s.startWalk wn wp).wp = wp := rfl
@[simp] theorem State.startWalk_pend (wn wp : Byte) (s : State) : (s.startWalk wn wp).pend = s.pend := rfl
@[simp] theorem State.startWalk_inputs (wn wp : Byte) (s : State) : (s.startWalk wn wp).inputs = s.inputs := rfl
@[simp] theorem State.startWalk_replies (wn wp : Byte) (s : State) : (s.startWalk wn wp).replies = s.replies := rfl

@[simp] theorem State.finishWalk_cie (s : State) : s.finishWalk.cie = s.cie := rfl
@[simp] theorem State.finishWalk_eie (s : State) : s.finishWalk.eie = s.eie := rfl
@[simp] theorem State.finishWalk_busy (s : State) : s.finishWalk.busy = s.busy := rfl
@[simp] theorem State.finishWalk_cc (s : State) : s.finishWalk.cc = s.cc := rfl
@[simp] theorem State.finishWalk_err (s : State) : s.finishWalk.err = s.err := rfl
@[simp] theorem State.finishWalk_done (s : State) : s.finishWalk.done = true := rfl
@[simp] theorem State.finishWalk_active (s : State) : s.finishWalk.active = false := rfl
@[simp] theorem State.finishWalk_wrap (s : State) : s.finishWalk.wrap = s.wrap := rfl
@[simp] theorem State.finishWalk_ovr (s : State) : s.finishWalk.ovr = s.ovr := rfl
@[simp] theorem State.finishWalk_ecode (s : State) : s.finishWalk.ecode = s.ecode := rfl
@[simp] theorem State.finishWalk_cmd (s : State) : s.finishWalk.cmd = s.cmd := rfl
@[simp] theorem State.finishWalk_opa (s : State) : s.finishWalk.opa = s.opa := rfl
@[simp] theorem State.finishWalk_opb (s : State) : s.finishWalk.opb = s.opb := rfl
@[simp] theorem State.finishWalk_opc (s : State) : s.finishWalk.opc = s.opc := rfl
@[simp] theorem State.finishWalk_res0 (s : State) : s.finishWalk.res0 = s.res0 := rfl
@[simp] theorem State.finishWalk_res1 (s : State) : s.finishWalk.res1 = s.res1 := rfl
@[simp] theorem State.finishWalk_res2 (s : State) : s.finishWalk.res2 = s.res2 := rfl
@[simp] theorem State.finishWalk_res3 (s : State) : s.finishWalk.res3 = s.res3 := rfl
@[simp] theorem State.finishWalk_gcnt (s : State) : s.finishWalk.gcnt = 0#32 := rfl
@[simp] theorem State.finishWalk_wn (s : State) : s.finishWalk.wn = s.wn := rfl
@[simp] theorem State.finishWalk_wp (s : State) : s.finishWalk.wp = s.wp := rfl
@[simp] theorem State.finishWalk_pend (s : State) : s.finishWalk.pend = s.pend := rfl
@[simp] theorem State.finishWalk_inputs (s : State) : s.finishWalk.inputs = s.inputs := rfl
@[simp] theorem State.finishWalk_replies (s : State) : s.finishWalk.replies = s.replies := rfl

@[simp] theorem State.stopWalk_cie (s : State) : s.stopWalk.cie = s.cie := rfl
@[simp] theorem State.stopWalk_eie (s : State) : s.stopWalk.eie = s.eie := rfl
@[simp] theorem State.stopWalk_busy (s : State) : s.stopWalk.busy = s.busy := rfl
@[simp] theorem State.stopWalk_cc (s : State) : s.stopWalk.cc = s.cc := rfl
@[simp] theorem State.stopWalk_err (s : State) : s.stopWalk.err = s.err := rfl
@[simp] theorem State.stopWalk_done (s : State) : s.stopWalk.done = s.done := rfl
@[simp] theorem State.stopWalk_active (s : State) : s.stopWalk.active = false := rfl
@[simp] theorem State.stopWalk_wrap (s : State) : s.stopWalk.wrap = s.wrap := rfl
@[simp] theorem State.stopWalk_ovr (s : State) : s.stopWalk.ovr = s.ovr := rfl
@[simp] theorem State.stopWalk_ecode (s : State) : s.stopWalk.ecode = s.ecode := rfl
@[simp] theorem State.stopWalk_cmd (s : State) : s.stopWalk.cmd = s.cmd := rfl
@[simp] theorem State.stopWalk_opa (s : State) : s.stopWalk.opa = s.opa := rfl
@[simp] theorem State.stopWalk_opb (s : State) : s.stopWalk.opb = s.opb := rfl
@[simp] theorem State.stopWalk_opc (s : State) : s.stopWalk.opc = s.opc := rfl
@[simp] theorem State.stopWalk_res0 (s : State) : s.stopWalk.res0 = s.res0 := rfl
@[simp] theorem State.stopWalk_res1 (s : State) : s.stopWalk.res1 = s.res1 := rfl
@[simp] theorem State.stopWalk_res2 (s : State) : s.stopWalk.res2 = s.res2 := rfl
@[simp] theorem State.stopWalk_res3 (s : State) : s.stopWalk.res3 = s.res3 := rfl
@[simp] theorem State.stopWalk_gcnt (s : State) : s.stopWalk.gcnt = s.gcnt := rfl
@[simp] theorem State.stopWalk_wn (s : State) : s.stopWalk.wn = s.wn := rfl
@[simp] theorem State.stopWalk_wp (s : State) : s.stopWalk.wp = s.wp := rfl
@[simp] theorem State.stopWalk_pend (s : State) : s.stopWalk.pend = s.pend := rfl
@[simp] theorem State.stopWalk_inputs (s : State) : s.stopWalk.inputs = s.inputs := rfl
@[simp] theorem State.stopWalk_replies (s : State) : s.stopWalk.replies = s.replies := rfl

@[simp] theorem State.acceptCommand_cie (v : Word) (s : State) : (s.acceptCommand v).cie = s.cie := rfl
@[simp] theorem State.acceptCommand_eie (v : Word) (s : State) : (s.acceptCommand v).eie = s.eie := rfl
@[simp] theorem State.acceptCommand_busy (v : Word) (s : State) : (s.acceptCommand v).busy = true := rfl
@[simp] theorem State.acceptCommand_cc (v : Word) (s : State) : (s.acceptCommand v).cc = s.cc := rfl
@[simp] theorem State.acceptCommand_err (v : Word) (s : State) : (s.acceptCommand v).err = s.err := rfl
@[simp] theorem State.acceptCommand_done (v : Word) (s : State) : (s.acceptCommand v).done = s.done := rfl
@[simp] theorem State.acceptCommand_active (v : Word) (s : State) : (s.acceptCommand v).active = s.active := rfl
@[simp] theorem State.acceptCommand_wrap (v : Word) (s : State) : (s.acceptCommand v).wrap = s.wrap := rfl
@[simp] theorem State.acceptCommand_ovr (v : Word) (s : State) : (s.acceptCommand v).ovr = s.ovr := rfl
@[simp] theorem State.acceptCommand_ecode (v : Word) (s : State) : (s.acceptCommand v).ecode = s.ecode := rfl
@[simp] theorem State.acceptCommand_cmd (v : Word) (s : State) : (s.acceptCommand v).cmd = v := rfl
@[simp] theorem State.acceptCommand_opa (v : Word) (s : State) : (s.acceptCommand v).opa = s.opa := rfl
@[simp] theorem State.acceptCommand_opb (v : Word) (s : State) : (s.acceptCommand v).opb = s.opb := rfl
@[simp] theorem State.acceptCommand_opc (v : Word) (s : State) : (s.acceptCommand v).opc = s.opc := rfl
@[simp] theorem State.acceptCommand_res0 (v : Word) (s : State) : (s.acceptCommand v).res0 = s.res0 := rfl
@[simp] theorem State.acceptCommand_res1 (v : Word) (s : State) : (s.acceptCommand v).res1 = s.res1 := rfl
@[simp] theorem State.acceptCommand_res2 (v : Word) (s : State) : (s.acceptCommand v).res2 = s.res2 := rfl
@[simp] theorem State.acceptCommand_res3 (v : Word) (s : State) : (s.acceptCommand v).res3 = s.res3 := rfl
@[simp] theorem State.acceptCommand_gcnt (v : Word) (s : State) : (s.acceptCommand v).gcnt = s.gcnt := rfl
@[simp] theorem State.acceptCommand_wn (v : Word) (s : State) : (s.acceptCommand v).wn = s.wn := rfl
@[simp] theorem State.acceptCommand_wp (v : Word) (s : State) : (s.acceptCommand v).wp = s.wp := rfl
@[simp] theorem State.acceptCommand_pend (v : Word) (s : State) : (s.acceptCommand v).pend = some ⟨v, s.opa, s.opb, s.opc⟩ := rfl
@[simp] theorem State.acceptCommand_inputs (v : Word) (s : State) : (s.acceptCommand v).inputs = s.inputs := rfl
@[simp] theorem State.acceptCommand_replies (v : Word) (s : State) : (s.acceptCommand v).replies = s.replies := rfl

@[simp] theorem State.dropCommand_cie (s : State) : s.dropCommand.cie = s.cie := rfl
@[simp] theorem State.dropCommand_eie (s : State) : s.dropCommand.eie = s.eie := rfl
@[simp] theorem State.dropCommand_busy (s : State) : s.dropCommand.busy = s.busy := rfl
@[simp] theorem State.dropCommand_cc (s : State) : s.dropCommand.cc = s.cc := rfl
@[simp] theorem State.dropCommand_err (s : State) : s.dropCommand.err = s.err := rfl
@[simp] theorem State.dropCommand_done (s : State) : s.dropCommand.done = s.done := rfl
@[simp] theorem State.dropCommand_active (s : State) : s.dropCommand.active = s.active := rfl
@[simp] theorem State.dropCommand_wrap (s : State) : s.dropCommand.wrap = s.wrap := rfl
@[simp] theorem State.dropCommand_ovr (s : State) : s.dropCommand.ovr = true := rfl
@[simp] theorem State.dropCommand_ecode (s : State) : s.dropCommand.ecode = s.ecode := rfl
@[simp] theorem State.dropCommand_cmd (s : State) : s.dropCommand.cmd = s.cmd := rfl
@[simp] theorem State.dropCommand_opa (s : State) : s.dropCommand.opa = s.opa := rfl
@[simp] theorem State.dropCommand_opb (s : State) : s.dropCommand.opb = s.opb := rfl
@[simp] theorem State.dropCommand_opc (s : State) : s.dropCommand.opc = s.opc := rfl
@[simp] theorem State.dropCommand_res0 (s : State) : s.dropCommand.res0 = s.res0 := rfl
@[simp] theorem State.dropCommand_res1 (s : State) : s.dropCommand.res1 = s.res1 := rfl
@[simp] theorem State.dropCommand_res2 (s : State) : s.dropCommand.res2 = s.res2 := rfl
@[simp] theorem State.dropCommand_res3 (s : State) : s.dropCommand.res3 = s.res3 := rfl
@[simp] theorem State.dropCommand_gcnt (s : State) : s.dropCommand.gcnt = s.gcnt := rfl
@[simp] theorem State.dropCommand_wn (s : State) : s.dropCommand.wn = s.wn := rfl
@[simp] theorem State.dropCommand_wp (s : State) : s.dropCommand.wp = s.wp := rfl
@[simp] theorem State.dropCommand_pend (s : State) : s.dropCommand.pend = s.pend := rfl
@[simp] theorem State.dropCommand_inputs (s : State) : s.dropCommand.inputs = s.inputs := rfl
@[simp] theorem State.dropCommand_replies (s : State) : s.dropCommand.replies = s.replies := rfl

@[simp] theorem State.resetEngine_cie (s : State) : s.resetEngine.cie = Engine.reset.cie := rfl
@[simp] theorem State.resetEngine_eie (s : State) : s.resetEngine.eie = Engine.reset.eie := rfl
@[simp] theorem State.resetEngine_busy (s : State) : s.resetEngine.busy = Engine.reset.busy := rfl
@[simp] theorem State.resetEngine_cc (s : State) : s.resetEngine.cc = Engine.reset.cc := rfl
@[simp] theorem State.resetEngine_err (s : State) : s.resetEngine.err = Engine.reset.err := rfl
@[simp] theorem State.resetEngine_done (s : State) : s.resetEngine.done = Engine.reset.done := rfl
@[simp] theorem State.resetEngine_active (s : State) : s.resetEngine.active = Engine.reset.active := rfl
@[simp] theorem State.resetEngine_wrap (s : State) : s.resetEngine.wrap = Engine.reset.wrap := rfl
@[simp] theorem State.resetEngine_ovr (s : State) : s.resetEngine.ovr = Engine.reset.ovr := rfl
@[simp] theorem State.resetEngine_ecode (s : State) : s.resetEngine.ecode = Engine.reset.ecode := rfl
@[simp] theorem State.resetEngine_cmd (s : State) : s.resetEngine.cmd = Engine.reset.cmd := rfl
@[simp] theorem State.resetEngine_opa (s : State) : s.resetEngine.opa = Engine.reset.opa := rfl
@[simp] theorem State.resetEngine_opb (s : State) : s.resetEngine.opb = Engine.reset.opb := rfl
@[simp] theorem State.resetEngine_opc (s : State) : s.resetEngine.opc = Engine.reset.opc := rfl
@[simp] theorem State.resetEngine_res0 (s : State) : s.resetEngine.res0 = Engine.reset.res0 := rfl
@[simp] theorem State.resetEngine_res1 (s : State) : s.resetEngine.res1 = Engine.reset.res1 := rfl
@[simp] theorem State.resetEngine_res2 (s : State) : s.resetEngine.res2 = Engine.reset.res2 := rfl
@[simp] theorem State.resetEngine_res3 (s : State) : s.resetEngine.res3 = Engine.reset.res3 := rfl
@[simp] theorem State.resetEngine_gcnt (s : State) : s.resetEngine.gcnt = Engine.reset.gcnt := rfl
@[simp] theorem State.resetEngine_wn (s : State) : s.resetEngine.wn = Engine.reset.wn := rfl
@[simp] theorem State.resetEngine_wp (s : State) : s.resetEngine.wp = Engine.reset.wp := rfl
@[simp] theorem State.resetEngine_pend (s : State) : s.resetEngine.pend = Engine.reset.pend := rfl
@[simp] theorem State.resetEngine_inputs (s : State) : s.resetEngine.inputs = s.inputs := rfl
@[simp] theorem State.resetEngine_replies (s : State) : s.resetEngine.replies = s.replies := rfl

@[simp] theorem State.writeEnables_cie (v : Word) (s : State) : (s.writeEnables v).cie = v.getLsbD 0 := rfl
@[simp] theorem State.writeEnables_eie (v : Word) (s : State) : (s.writeEnables v).eie = v.getLsbD 1 := rfl
@[simp] theorem State.writeEnables_busy (v : Word) (s : State) : (s.writeEnables v).busy = s.busy := rfl
@[simp] theorem State.writeEnables_cc (v : Word) (s : State) : (s.writeEnables v).cc = s.cc := rfl
@[simp] theorem State.writeEnables_err (v : Word) (s : State) : (s.writeEnables v).err = s.err := rfl
@[simp] theorem State.writeEnables_done (v : Word) (s : State) : (s.writeEnables v).done = s.done := rfl
@[simp] theorem State.writeEnables_active (v : Word) (s : State) : (s.writeEnables v).active = s.active := rfl
@[simp] theorem State.writeEnables_wrap (v : Word) (s : State) : (s.writeEnables v).wrap = s.wrap := rfl
@[simp] theorem State.writeEnables_ovr (v : Word) (s : State) : (s.writeEnables v).ovr = s.ovr := rfl
@[simp] theorem State.writeEnables_ecode (v : Word) (s : State) : (s.writeEnables v).ecode = s.ecode := rfl
@[simp] theorem State.writeEnables_cmd (v : Word) (s : State) : (s.writeEnables v).cmd = s.cmd := rfl
@[simp] theorem State.writeEnables_opa (v : Word) (s : State) : (s.writeEnables v).opa = s.opa := rfl
@[simp] theorem State.writeEnables_opb (v : Word) (s : State) : (s.writeEnables v).opb = s.opb := rfl
@[simp] theorem State.writeEnables_opc (v : Word) (s : State) : (s.writeEnables v).opc = s.opc := rfl
@[simp] theorem State.writeEnables_res0 (v : Word) (s : State) : (s.writeEnables v).res0 = s.res0 := rfl
@[simp] theorem State.writeEnables_res1 (v : Word) (s : State) : (s.writeEnables v).res1 = s.res1 := rfl
@[simp] theorem State.writeEnables_res2 (v : Word) (s : State) : (s.writeEnables v).res2 = s.res2 := rfl
@[simp] theorem State.writeEnables_res3 (v : Word) (s : State) : (s.writeEnables v).res3 = s.res3 := rfl
@[simp] theorem State.writeEnables_gcnt (v : Word) (s : State) : (s.writeEnables v).gcnt = s.gcnt := rfl
@[simp] theorem State.writeEnables_wn (v : Word) (s : State) : (s.writeEnables v).wn = s.wn := rfl
@[simp] theorem State.writeEnables_wp (v : Word) (s : State) : (s.writeEnables v).wp = s.wp := rfl
@[simp] theorem State.writeEnables_pend (v : Word) (s : State) : (s.writeEnables v).pend = s.pend := rfl
@[simp] theorem State.writeEnables_inputs (v : Word) (s : State) : (s.writeEnables v).inputs = s.inputs := rfl
@[simp] theorem State.writeEnables_replies (v : Word) (s : State) : (s.writeEnables v).replies = s.replies := rfl

@[simp] theorem State.clearStatus_cie (v : Word) (s : State) : (s.clearStatus v).cie = s.cie := rfl
@[simp] theorem State.clearStatus_eie (v : Word) (s : State) : (s.clearStatus v).eie = s.eie := rfl
@[simp] theorem State.clearStatus_busy (v : Word) (s : State) : (s.clearStatus v).busy = s.busy := rfl
@[simp] theorem State.clearStatus_cc (v : Word) (s : State) : (s.clearStatus v).cc = (s.cc && !v.getLsbD 1) := rfl
@[simp] theorem State.clearStatus_err (v : Word) (s : State) : (s.clearStatus v).err = s.err := rfl
@[simp] theorem State.clearStatus_done (v : Word) (s : State) : (s.clearStatus v).done = (s.done && !v.getLsbD 3) := rfl
@[simp] theorem State.clearStatus_active (v : Word) (s : State) : (s.clearStatus v).active = s.active := rfl
@[simp] theorem State.clearStatus_wrap (v : Word) (s : State) : (s.clearStatus v).wrap = (s.wrap && !v.getLsbD 5) := rfl
@[simp] theorem State.clearStatus_ovr (v : Word) (s : State) : (s.clearStatus v).ovr = (s.ovr && !v.getLsbD 6) := rfl
@[simp] theorem State.clearStatus_ecode (v : Word) (s : State) : (s.clearStatus v).ecode = s.ecode := rfl
@[simp] theorem State.clearStatus_cmd (v : Word) (s : State) : (s.clearStatus v).cmd = s.cmd := rfl
@[simp] theorem State.clearStatus_opa (v : Word) (s : State) : (s.clearStatus v).opa = s.opa := rfl
@[simp] theorem State.clearStatus_opb (v : Word) (s : State) : (s.clearStatus v).opb = s.opb := rfl
@[simp] theorem State.clearStatus_opc (v : Word) (s : State) : (s.clearStatus v).opc = s.opc := rfl
@[simp] theorem State.clearStatus_res0 (v : Word) (s : State) : (s.clearStatus v).res0 = s.res0 := rfl
@[simp] theorem State.clearStatus_res1 (v : Word) (s : State) : (s.clearStatus v).res1 = s.res1 := rfl
@[simp] theorem State.clearStatus_res2 (v : Word) (s : State) : (s.clearStatus v).res2 = s.res2 := rfl
@[simp] theorem State.clearStatus_res3 (v : Word) (s : State) : (s.clearStatus v).res3 = s.res3 := rfl
@[simp] theorem State.clearStatus_gcnt (v : Word) (s : State) : (s.clearStatus v).gcnt = s.gcnt := rfl
@[simp] theorem State.clearStatus_wn (v : Word) (s : State) : (s.clearStatus v).wn = s.wn := rfl
@[simp] theorem State.clearStatus_wp (v : Word) (s : State) : (s.clearStatus v).wp = s.wp := rfl
@[simp] theorem State.clearStatus_pend (v : Word) (s : State) : (s.clearStatus v).pend = s.pend := rfl
@[simp] theorem State.clearStatus_inputs (v : Word) (s : State) : (s.clearStatus v).inputs = s.inputs := rfl
@[simp] theorem State.clearStatus_replies (v : Word) (s : State) : (s.clearStatus v).replies = s.replies := rfl

@[simp] theorem State.writeOpa_cie (v : Word) (s : State) : (s.writeOpa v).cie = s.cie := rfl
@[simp] theorem State.writeOpa_eie (v : Word) (s : State) : (s.writeOpa v).eie = s.eie := rfl
@[simp] theorem State.writeOpa_busy (v : Word) (s : State) : (s.writeOpa v).busy = s.busy := rfl
@[simp] theorem State.writeOpa_cc (v : Word) (s : State) : (s.writeOpa v).cc = s.cc := rfl
@[simp] theorem State.writeOpa_err (v : Word) (s : State) : (s.writeOpa v).err = s.err := rfl
@[simp] theorem State.writeOpa_done (v : Word) (s : State) : (s.writeOpa v).done = s.done := rfl
@[simp] theorem State.writeOpa_active (v : Word) (s : State) : (s.writeOpa v).active = s.active := rfl
@[simp] theorem State.writeOpa_wrap (v : Word) (s : State) : (s.writeOpa v).wrap = s.wrap := rfl
@[simp] theorem State.writeOpa_ovr (v : Word) (s : State) : (s.writeOpa v).ovr = s.ovr := rfl
@[simp] theorem State.writeOpa_ecode (v : Word) (s : State) : (s.writeOpa v).ecode = s.ecode := rfl
@[simp] theorem State.writeOpa_cmd (v : Word) (s : State) : (s.writeOpa v).cmd = s.cmd := rfl
@[simp] theorem State.writeOpa_opa (v : Word) (s : State) : (s.writeOpa v).opa = v := rfl
@[simp] theorem State.writeOpa_opb (v : Word) (s : State) : (s.writeOpa v).opb = s.opb := rfl
@[simp] theorem State.writeOpa_opc (v : Word) (s : State) : (s.writeOpa v).opc = s.opc := rfl
@[simp] theorem State.writeOpa_res0 (v : Word) (s : State) : (s.writeOpa v).res0 = s.res0 := rfl
@[simp] theorem State.writeOpa_res1 (v : Word) (s : State) : (s.writeOpa v).res1 = s.res1 := rfl
@[simp] theorem State.writeOpa_res2 (v : Word) (s : State) : (s.writeOpa v).res2 = s.res2 := rfl
@[simp] theorem State.writeOpa_res3 (v : Word) (s : State) : (s.writeOpa v).res3 = s.res3 := rfl
@[simp] theorem State.writeOpa_gcnt (v : Word) (s : State) : (s.writeOpa v).gcnt = s.gcnt := rfl
@[simp] theorem State.writeOpa_wn (v : Word) (s : State) : (s.writeOpa v).wn = s.wn := rfl
@[simp] theorem State.writeOpa_wp (v : Word) (s : State) : (s.writeOpa v).wp = s.wp := rfl
@[simp] theorem State.writeOpa_pend (v : Word) (s : State) : (s.writeOpa v).pend = s.pend := rfl
@[simp] theorem State.writeOpa_inputs (v : Word) (s : State) : (s.writeOpa v).inputs = s.inputs := rfl
@[simp] theorem State.writeOpa_replies (v : Word) (s : State) : (s.writeOpa v).replies = s.replies := rfl

@[simp] theorem State.writeOpb_cie (v : Word) (s : State) : (s.writeOpb v).cie = s.cie := rfl
@[simp] theorem State.writeOpb_eie (v : Word) (s : State) : (s.writeOpb v).eie = s.eie := rfl
@[simp] theorem State.writeOpb_busy (v : Word) (s : State) : (s.writeOpb v).busy = s.busy := rfl
@[simp] theorem State.writeOpb_cc (v : Word) (s : State) : (s.writeOpb v).cc = s.cc := rfl
@[simp] theorem State.writeOpb_err (v : Word) (s : State) : (s.writeOpb v).err = s.err := rfl
@[simp] theorem State.writeOpb_done (v : Word) (s : State) : (s.writeOpb v).done = s.done := rfl
@[simp] theorem State.writeOpb_active (v : Word) (s : State) : (s.writeOpb v).active = s.active := rfl
@[simp] theorem State.writeOpb_wrap (v : Word) (s : State) : (s.writeOpb v).wrap = s.wrap := rfl
@[simp] theorem State.writeOpb_ovr (v : Word) (s : State) : (s.writeOpb v).ovr = s.ovr := rfl
@[simp] theorem State.writeOpb_ecode (v : Word) (s : State) : (s.writeOpb v).ecode = s.ecode := rfl
@[simp] theorem State.writeOpb_cmd (v : Word) (s : State) : (s.writeOpb v).cmd = s.cmd := rfl
@[simp] theorem State.writeOpb_opa (v : Word) (s : State) : (s.writeOpb v).opa = s.opa := rfl
@[simp] theorem State.writeOpb_opb (v : Word) (s : State) : (s.writeOpb v).opb = v := rfl
@[simp] theorem State.writeOpb_opc (v : Word) (s : State) : (s.writeOpb v).opc = s.opc := rfl
@[simp] theorem State.writeOpb_res0 (v : Word) (s : State) : (s.writeOpb v).res0 = s.res0 := rfl
@[simp] theorem State.writeOpb_res1 (v : Word) (s : State) : (s.writeOpb v).res1 = s.res1 := rfl
@[simp] theorem State.writeOpb_res2 (v : Word) (s : State) : (s.writeOpb v).res2 = s.res2 := rfl
@[simp] theorem State.writeOpb_res3 (v : Word) (s : State) : (s.writeOpb v).res3 = s.res3 := rfl
@[simp] theorem State.writeOpb_gcnt (v : Word) (s : State) : (s.writeOpb v).gcnt = s.gcnt := rfl
@[simp] theorem State.writeOpb_wn (v : Word) (s : State) : (s.writeOpb v).wn = s.wn := rfl
@[simp] theorem State.writeOpb_wp (v : Word) (s : State) : (s.writeOpb v).wp = s.wp := rfl
@[simp] theorem State.writeOpb_pend (v : Word) (s : State) : (s.writeOpb v).pend = s.pend := rfl
@[simp] theorem State.writeOpb_inputs (v : Word) (s : State) : (s.writeOpb v).inputs = s.inputs := rfl
@[simp] theorem State.writeOpb_replies (v : Word) (s : State) : (s.writeOpb v).replies = s.replies := rfl

@[simp] theorem State.writeOpc_cie (v : Word) (s : State) : (s.writeOpc v).cie = s.cie := rfl
@[simp] theorem State.writeOpc_eie (v : Word) (s : State) : (s.writeOpc v).eie = s.eie := rfl
@[simp] theorem State.writeOpc_busy (v : Word) (s : State) : (s.writeOpc v).busy = s.busy := rfl
@[simp] theorem State.writeOpc_cc (v : Word) (s : State) : (s.writeOpc v).cc = s.cc := rfl
@[simp] theorem State.writeOpc_err (v : Word) (s : State) : (s.writeOpc v).err = s.err := rfl
@[simp] theorem State.writeOpc_done (v : Word) (s : State) : (s.writeOpc v).done = s.done := rfl
@[simp] theorem State.writeOpc_active (v : Word) (s : State) : (s.writeOpc v).active = s.active := rfl
@[simp] theorem State.writeOpc_wrap (v : Word) (s : State) : (s.writeOpc v).wrap = s.wrap := rfl
@[simp] theorem State.writeOpc_ovr (v : Word) (s : State) : (s.writeOpc v).ovr = s.ovr := rfl
@[simp] theorem State.writeOpc_ecode (v : Word) (s : State) : (s.writeOpc v).ecode = s.ecode := rfl
@[simp] theorem State.writeOpc_cmd (v : Word) (s : State) : (s.writeOpc v).cmd = s.cmd := rfl
@[simp] theorem State.writeOpc_opa (v : Word) (s : State) : (s.writeOpc v).opa = s.opa := rfl
@[simp] theorem State.writeOpc_opb (v : Word) (s : State) : (s.writeOpc v).opb = s.opb := rfl
@[simp] theorem State.writeOpc_opc (v : Word) (s : State) : (s.writeOpc v).opc = v := rfl
@[simp] theorem State.writeOpc_res0 (v : Word) (s : State) : (s.writeOpc v).res0 = s.res0 := rfl
@[simp] theorem State.writeOpc_res1 (v : Word) (s : State) : (s.writeOpc v).res1 = s.res1 := rfl
@[simp] theorem State.writeOpc_res2 (v : Word) (s : State) : (s.writeOpc v).res2 = s.res2 := rfl
@[simp] theorem State.writeOpc_res3 (v : Word) (s : State) : (s.writeOpc v).res3 = s.res3 := rfl
@[simp] theorem State.writeOpc_gcnt (v : Word) (s : State) : (s.writeOpc v).gcnt = s.gcnt := rfl
@[simp] theorem State.writeOpc_wn (v : Word) (s : State) : (s.writeOpc v).wn = s.wn := rfl
@[simp] theorem State.writeOpc_wp (v : Word) (s : State) : (s.writeOpc v).wp = s.wp := rfl
@[simp] theorem State.writeOpc_pend (v : Word) (s : State) : (s.writeOpc v).pend = s.pend := rfl
@[simp] theorem State.writeOpc_inputs (v : Word) (s : State) : (s.writeOpc v).inputs = s.inputs := rfl
@[simp] theorem State.writeOpc_replies (v : Word) (s : State) : (s.writeOpc v).replies = s.replies := rfl

@[simp] theorem State.reply_cie (v : Word) (s : State) : (s.reply v).cie = s.cie := rfl
@[simp] theorem State.reply_eie (v : Word) (s : State) : (s.reply v).eie = s.eie := rfl
@[simp] theorem State.reply_busy (v : Word) (s : State) : (s.reply v).busy = s.busy := rfl
@[simp] theorem State.reply_cc (v : Word) (s : State) : (s.reply v).cc = s.cc := rfl
@[simp] theorem State.reply_err (v : Word) (s : State) : (s.reply v).err = s.err := rfl
@[simp] theorem State.reply_done (v : Word) (s : State) : (s.reply v).done = s.done := rfl
@[simp] theorem State.reply_active (v : Word) (s : State) : (s.reply v).active = s.active := rfl
@[simp] theorem State.reply_wrap (v : Word) (s : State) : (s.reply v).wrap = s.wrap := rfl
@[simp] theorem State.reply_ovr (v : Word) (s : State) : (s.reply v).ovr = s.ovr := rfl
@[simp] theorem State.reply_ecode (v : Word) (s : State) : (s.reply v).ecode = s.ecode := rfl
@[simp] theorem State.reply_cmd (v : Word) (s : State) : (s.reply v).cmd = s.cmd := rfl
@[simp] theorem State.reply_opa (v : Word) (s : State) : (s.reply v).opa = s.opa := rfl
@[simp] theorem State.reply_opb (v : Word) (s : State) : (s.reply v).opb = s.opb := rfl
@[simp] theorem State.reply_opc (v : Word) (s : State) : (s.reply v).opc = s.opc := rfl
@[simp] theorem State.reply_res0 (v : Word) (s : State) : (s.reply v).res0 = s.res0 := rfl
@[simp] theorem State.reply_res1 (v : Word) (s : State) : (s.reply v).res1 = s.res1 := rfl
@[simp] theorem State.reply_res2 (v : Word) (s : State) : (s.reply v).res2 = s.res2 := rfl
@[simp] theorem State.reply_res3 (v : Word) (s : State) : (s.reply v).res3 = s.res3 := rfl
@[simp] theorem State.reply_gcnt (v : Word) (s : State) : (s.reply v).gcnt = s.gcnt := rfl
@[simp] theorem State.reply_wn (v : Word) (s : State) : (s.reply v).wn = s.wn := rfl
@[simp] theorem State.reply_wp (v : Word) (s : State) : (s.reply v).wp = s.wp := rfl
@[simp] theorem State.reply_pend (v : Word) (s : State) : (s.reply v).pend = s.pend := rfl
@[simp] theorem State.reply_inputs (v : Word) (s : State) : (s.reply v).inputs = s.inputs := rfl
@[simp] theorem State.reply_replies (v : Word) (s : State) : (s.reply v).replies = v :: s.replies := rfl
@[simp] theorem State.reply_toEngine (v : Word) (s : State) : (s.reply v).toEngine = s.toEngine := rfl

@[simp] theorem State.writeCoords_cie (v : Word) (n p : Nat) (r3 : Word) (s : State) : (s.writeCoords v n p r3).cie = s.cie := rfl
@[simp] theorem State.writeCoords_eie (v : Word) (n p : Nat) (r3 : Word) (s : State) : (s.writeCoords v n p r3).eie = s.eie := rfl
@[simp] theorem State.writeCoords_busy (v : Word) (n p : Nat) (r3 : Word) (s : State) : (s.writeCoords v n p r3).busy = s.busy := rfl
@[simp] theorem State.writeCoords_cc (v : Word) (n p : Nat) (r3 : Word) (s : State) : (s.writeCoords v n p r3).cc = s.cc := rfl
@[simp] theorem State.writeCoords_err (v : Word) (n p : Nat) (r3 : Word) (s : State) : (s.writeCoords v n p r3).err = s.err := rfl
@[simp] theorem State.writeCoords_done (v : Word) (n p : Nat) (r3 : Word) (s : State) : (s.writeCoords v n p r3).done = s.done := rfl
@[simp] theorem State.writeCoords_active (v : Word) (n p : Nat) (r3 : Word) (s : State) : (s.writeCoords v n p r3).active = s.active := rfl
@[simp] theorem State.writeCoords_wrap (v : Word) (n p : Nat) (r3 : Word) (s : State) : (s.writeCoords v n p r3).wrap = s.wrap := rfl
@[simp] theorem State.writeCoords_ovr (v : Word) (n p : Nat) (r3 : Word) (s : State) : (s.writeCoords v n p r3).ovr = s.ovr := rfl
@[simp] theorem State.writeCoords_ecode (v : Word) (n p : Nat) (r3 : Word) (s : State) : (s.writeCoords v n p r3).ecode = s.ecode := rfl
@[simp] theorem State.writeCoords_cmd (v : Word) (n p : Nat) (r3 : Word) (s : State) : (s.writeCoords v n p r3).cmd = s.cmd := rfl
@[simp] theorem State.writeCoords_opa (v : Word) (n p : Nat) (r3 : Word) (s : State) : (s.writeCoords v n p r3).opa = s.opa := rfl
@[simp] theorem State.writeCoords_opb (v : Word) (n p : Nat) (r3 : Word) (s : State) : (s.writeCoords v n p r3).opb = s.opb := rfl
@[simp] theorem State.writeCoords_opc (v : Word) (n p : Nat) (r3 : Word) (s : State) : (s.writeCoords v n p r3).opc = s.opc := rfl
@[simp] theorem State.writeCoords_res0 (v : Word) (n p : Nat) (r3 : Word) (s : State) : (s.writeCoords v n p r3).res0 = decodeAxis v n p 0 := rfl
@[simp] theorem State.writeCoords_res1 (v : Word) (n p : Nat) (r3 : Word) (s : State) : (s.writeCoords v n p r3).res1 = decodeAxis v n p 1 := rfl
@[simp] theorem State.writeCoords_res2 (v : Word) (n p : Nat) (r3 : Word) (s : State) : (s.writeCoords v n p r3).res2 = (if n = 3 then decodeAxis v n p 2 else 0#32) := rfl
@[simp] theorem State.writeCoords_res3 (v : Word) (n p : Nat) (r3 : Word) (s : State) : (s.writeCoords v n p r3).res3 = r3 := rfl
@[simp] theorem State.writeCoords_gcnt (v : Word) (n p : Nat) (r3 : Word) (s : State) : (s.writeCoords v n p r3).gcnt = s.gcnt := rfl
@[simp] theorem State.writeCoords_wn (v : Word) (n p : Nat) (r3 : Word) (s : State) : (s.writeCoords v n p r3).wn = s.wn := rfl
@[simp] theorem State.writeCoords_wp (v : Word) (n p : Nat) (r3 : Word) (s : State) : (s.writeCoords v n p r3).wp = s.wp := rfl
@[simp] theorem State.writeCoords_pend (v : Word) (n p : Nat) (r3 : Word) (s : State) : (s.writeCoords v n p r3).pend = s.pend := rfl
@[simp] theorem State.writeCoords_inputs (v : Word) (n p : Nat) (r3 : Word) (s : State) : (s.writeCoords v n p r3).inputs = s.inputs := rfl
@[simp] theorem State.writeCoords_replies (v : Word) (n p : Nat) (r3 : Word) (s : State) : (s.writeCoords v n p r3).replies = s.replies := rfl

@[simp] theorem Engine.reset_cie : Engine.reset.cie = false := rfl
@[simp] theorem Engine.reset_eie : Engine.reset.eie = false := rfl
@[simp] theorem Engine.reset_busy : Engine.reset.busy = false := rfl
@[simp] theorem Engine.reset_cc : Engine.reset.cc = false := rfl
@[simp] theorem Engine.reset_err : Engine.reset.err = false := rfl
@[simp] theorem Engine.reset_done : Engine.reset.done = false := rfl
@[simp] theorem Engine.reset_active : Engine.reset.active = false := rfl
@[simp] theorem Engine.reset_wrap : Engine.reset.wrap = false := rfl
@[simp] theorem Engine.reset_ovr : Engine.reset.ovr = false := rfl
@[simp] theorem Engine.reset_ecode : Engine.reset.ecode = 0#4 := rfl
@[simp] theorem Engine.reset_cmd : Engine.reset.cmd = 0#32 := rfl
@[simp] theorem Engine.reset_opa : Engine.reset.opa = 0#32 := rfl
@[simp] theorem Engine.reset_opb : Engine.reset.opb = 0#32 := rfl
@[simp] theorem Engine.reset_opc : Engine.reset.opc = 0#32 := rfl
@[simp] theorem Engine.reset_res0 : Engine.reset.res0 = 0#32 := rfl
@[simp] theorem Engine.reset_res1 : Engine.reset.res1 = 0#32 := rfl
@[simp] theorem Engine.reset_res2 : Engine.reset.res2 = 0#32 := rfl
@[simp] theorem Engine.reset_res3 : Engine.reset.res3 = 0#32 := rfl
@[simp] theorem Engine.reset_gcnt : Engine.reset.gcnt = 0#32 := rfl
@[simp] theorem Engine.reset_wn : Engine.reset.wn = 0#8 := rfl
@[simp] theorem Engine.reset_wp : Engine.reset.wp = 0#8 := rfl
@[simp] theorem Engine.reset_pend : Engine.reset.pend = none := rfl

@[simp] theorem State.reset_toEngine : State.reset.toEngine = Engine.reset := rfl
@[simp] theorem State.reset_inputs : State.reset.inputs = [] := rfl
@[simp] theorem State.reset_replies : State.reset.replies = [] := rfl

end Sys2Proof.Machine
end

