-- ==== Sys2Proof/Laws/Ops.lean ====
section
/-! SUPPORT. What each shared operation can do, said once. -/

namespace Sys2Proof.Machine

/-- A meaning answers a next state only with a command in the latch. -/
theorem withLatch_next {s t : State} {k : Pending → Result} (h : withLatch s k = .next t) :
    ∃ l, s.pend = some l ∧ k l = .next t := by
  unfold withLatch at h
  cases hp : s.pend with
  | none => simp [hp] at h
  | some l => exact ⟨l, rfl, by simpa [hp] using h⟩

@[simp] theorem withLatch_some {s : State} {l : Pending} (h : s.pend = some l) (k : Pending → Result) :
    withLatch s k = k l := by
  simp [withLatch, h]

/-- Validation passes exactly on the valid pairs, whatever the unit (60_exceptions.md R204). -/
theorem checkNP_eq_none {unit : CheckUnit} {n p : Int} :
    checkNP unit n p = none ↔ (n = 2 ∨ n = 3) ∧ 0 ≤ p ∧ n * p ≤ 32 := by
  unfold checkNP
  cases unit <;> split_ifs <;> simp_all

/-- What validation reports, by case (60_exceptions.md R204, R205). -/
theorem checkNP_eq_some {unit : CheckUnit} {n p : Int} {e : ErrorKind} (h : checkNP unit n p = some e) :
    (¬(n = 2 ∨ n = 3) ∧ e = .invalidDimension) ∨
    ((n = 2 ∨ n = 3) ∧ p < 0 ∧ e = .invalidPrecision) ∨
    ((n = 2 ∨ n = 3) ∧ 0 ≤ p ∧ 32 < n * p ∧
      e = if unit = .skilling then .arithmeticOverflow else .invalidPrecision) := by
  unfold checkNP at h
  cases unit <;> split_ifs at h <;> simp_all

/-- A valid pair as natural numbers: the fields that WSTART stores are the operands themselves. -/
theorem valid_toNat {n p : Int} (h : (n = 2 ∨ n = 3) ∧ 0 ≤ p ∧ n * p ≤ 32) :
    (n.toNat = 2 ∨ n.toNat = 3) ∧ n.toNat * p.toNat ≤ 32 ∧
      (BitVec.ofInt 8 n).toNat = n.toNat ∧ (BitVec.ofInt 8 p).toNat = p.toNat := by
  obtain ⟨hn, hp, hnp⟩ := h
  have hp16 : p ≤ 16 := by rcases hn with rfl | rfl <;> omega
  obtain ⟨q, rfl⟩ := Int.eq_ofNat_of_zero_le hp
  rcases hn with rfl | rfl <;> simp <;> omega

/-- A CMD write is dropped or accepted, by BUSY (10_state.md R25). -/
theorem State.issueCommand_cases (v : Word) (s : State) :
    (s.busy = true ∧ s.issueCommand v = s.dropCommand) ∨
    (s.busy = false ∧ s.issueCommand v = s.acceptCommand v) := by
  unfold State.issueCommand
  cases s.busy <;> simp

/-- A CTRL write is a soft reset or a write of the enables, by bit 2 (10_state.md R22). -/
theorem State.writeCtrl_cases (v : Word) (s : State) :
    (v.getLsbD 2 = true ∧ s.writeCtrl v = s.resetEngine) ∨
    (v.getLsbD 2 = false ∧ s.writeCtrl v = s.writeEnables v) := by
  unfold State.writeCtrl
  cases v.getLsbD 2 <;> simp

/-- Everything a register write can do (20_memory.md R62). -/
theorem State.regWrite_cases (r : Reg) (v : Word) (s : State) :
    (r = .ctrl ∧ v.getLsbD 2 = true ∧ s.regWrite r v = s.resetEngine) ∨
    (r = .ctrl ∧ v.getLsbD 2 = false ∧ s.regWrite r v = s.writeEnables v) ∨
    (r = .status ∧ s.regWrite r v = s.clearStatus v) ∨
    (r = .cmd ∧ s.busy = true ∧ s.regWrite r v = s.dropCommand) ∨
    (r = .cmd ∧ s.busy = false ∧ s.regWrite r v = s.acceptCommand v) ∨
    (r = .opa ∧ s.regWrite r v = s.writeOpa v) ∨
    (r = .opb ∧ s.regWrite r v = s.writeOpb v) ∨
    (r = .opc ∧ s.regWrite r v = s.writeOpc v) ∨
    s.regWrite r v = s := by
  cases r
  case ctrl => rcases State.writeCtrl_cases v s with h | h <;> simp only [State.regWrite, h] <;> simp
  case cmd => rcases State.issueCommand_cases v s with h | h <;> simp only [State.regWrite, h] <;> simp
  all_goals simp [State.regWrite]

/-- An access reaches a register exactly when it is 32 bits wide and aligned (20_memory.md R65). -/
theorem accessTarget_eq_ok {off : Offset} {width : Nat} {r : Reg} :
    accessTarget off width = .ok r ↔ width = 32 ∧ regAt off = some r := by
  unfold accessTarget
  by_cases h : width = 32 <;> cases hr : regAt off <;> simp [h]

/-- CTRL is at offset 0x04 alone (10_state.md R20). -/
theorem regAt_eq_ctrl {off : Offset} : regAt off = some .ctrl ↔ off = 0x04#6 := by
  revert off; decide

/-- STATUS is at offset 0x08 alone (10_state.md R20). -/
theorem regAt_eq_status {off : Offset} : regAt off = some .status ↔ off = 0x08#6 := by
  revert off; decide

/-- A host read that is not refused replies with the register's value and does nothing else. -/
theorem hostRead_next {off : Offset} {width : Nat} {s t : State} (h : hostRead off width s = .next t) :
    width = 32 ∧ ∃ r, regAt off = some r ∧ t = s.reply (s.toEngine.regRead r) := by
  unfold hostRead at h
  split at h
  · rename_i r hr
    obtain ⟨hw, ho⟩ := accessTarget_eq_ok.mp hr
    exact ⟨hw, r, ho, by simpa using h.symm⟩
  · simp at h

/-- A host write that is not refused is the register's write. -/
theorem hostWrite_next {off : Offset} {width : Nat} {v : Word} {s t : State}
    (h : hostWrite off width v s = .next t) :
    width = 32 ∧ ∃ r, regAt off = some r ∧ t = s.regWrite r v := by
  unfold hostWrite at h
  split at h
  · rename_i r hr
    obtain ⟨hw, ho⟩ := accessTarget_eq_ok.mp hr
    exact ⟨hw, r, ho, by simpa using h.symm⟩
  · simp at h

end Sys2Proof.Machine
end

