-- ==== Sys2Proof/Laws/PerInstr.lean ====
section
/-! SUPPORT. Facts about every command as syntax, one lemma per constructor. -/

namespace Sys2Proof.Laws

/-- The encoder writes 0 into RSV, whatever the operands (30_encoding.md R84, R92). -/
def ReservedByteZero.Statement (i : Instr) : Prop := rsvField (encode i) = 0#8

theorem rsvField_append (p n o : Byte) : rsvField (0#8 ++ p ++ n ++ o) = 0#8 := by
  apply BitVec.eq_of_getLsbD_eq
  intro k hk
  have h1 : ¬ 24 + k < 8 := by omega
  have h2 : ¬ 24 + k - 8 < 8 := by omega
  have h3 : ¬ 24 + k - 8 - 8 < 8 := by omega
  simp only [rsvField, BitVec.getLsbD_extractLsb', BitVec.getLsbD_append, h1, h2, h3]
  simp

theorem ReservedByteZero.nop : ReservedByteZero.Statement .nop := rsvField_append _ _ _
theorem ReservedByteZero.gray : ReservedByteZero.Statement .gray := rsvField_append _ _ _
theorem ReservedByteZero.ginv : ReservedByteZero.Statement .ginv := rsvField_append _ _ _
theorem ReservedByteZero.gnext : ReservedByteZero.Statement .gnext := rsvField_append _ _ _
theorem ReservedByteZero.grst : ReservedByteZero.Statement .grst := rsvField_append _ _ _
theorem ReservedByteZero.gload : ReservedByteZero.Statement .gload := rsvField_append _ _ _
theorem ReservedByteZero.skil (n p : Int) : ReservedByteZero.Statement (.skil n p) := rsvField_append _ _ _
theorem ReservedByteZero.dec (n p : Int) : ReservedByteZero.Statement (.dec n p) := rsvField_append _ _ _
theorem ReservedByteZero.enc (n p : Int) : ReservedByteZero.Statement (.enc n p) := rsvField_append _ _ _
theorem ReservedByteZero.wstart (n p : Int) : ReservedByteZero.Statement (.wstart n p) := rsvField_append _ _ _
theorem ReservedByteZero.wstep : ReservedByteZero.Statement .wstep := rsvField_append _ _ _
theorem ReservedByteZero.wstop : ReservedByteZero.Statement .wstop := rsvField_append _ _ _

end Sys2Proof.Laws
end

