-- ==== Sys2Proof/Laws/Step.lean ====
section
/-! SUPPORT. What a completion, an engine turn and a step can do, said once: later proofs cite these and never unfold a
meaning, `exec` or `step`. -/

namespace Sys2Proof.Machine

/-- Everything a completed command can have done (60_exceptions.md R201, R202; 30_encoding.md R90). -/
inductive Completion (l : Pending) (s : State) : Instr → State → Prop where
  /-- GNEXT during a walk -/
  | gnextInWalk (h : s.active = true) : Completion l s .gnext (s.fail .sequenceError)
  /-- GRST during a walk -/
  | grstInWalk (h : s.active = true) : Completion l s .grst (s.fail .sequenceError)
  /-- GLOAD during a walk -/
  | gloadInWalk (h : s.active = true) : Completion l s .gload (s.fail .sequenceError)
  /-- WSTEP with no walk active -/
  | noWalk (h : s.active = false) : Completion l s .wstep (s.fail .sequenceError)
  /-- SKIL with an invalid pair -/
  | badSkil (n p : Int) (e : ErrorKind) (h : checkNP .skilling n p = some e) :
      Completion l s (.skil n p) (s.fail e)
  /-- DEC with an invalid pair -/
  | badDec (n p : Int) (e : ErrorKind) (h : checkNP .other n p = some e) :
      Completion l s (.dec n p) (s.fail e)
  /-- ENC with an invalid pair -/
  | badEnc (n p : Int) (e : ErrorKind) (h : checkNP .other n p = some e) :
      Completion l s (.enc n p) (s.fail e)
  /-- WSTART with an invalid pair -/
  | badWstart (n p : Int) (e : ErrorKind) (h : checkNP .other n p = some e) :
      Completion l s (.wstart n p) (s.fail e)
  /-- NOP -/
  | nop : Completion l s .nop s.succeed
  /-- GRAY -/
  | gray : Completion l s .gray (s.writeResults (gray l.a) 0#32 0#32 0#32).succeed
  /-- GINV -/
  | ginv : Completion l s .ginv (s.writeResults (ginv l.a) 0#32 0#32 0#32).succeed
  /-- GNEXT, outside a walk -/
  | gnext (h : s.active = false) : Completion l s .gnext
      (((s.writeResults (Machine.gray s.gcnt) s.gcnt 0#32 0#32).noteWrap (s.gcnt == 0xFFFFFFFF#32)).writeGcnt
        (s.gcnt + 1#32)).succeed
  /-- GRST, outside a walk -/
  | grst (h : s.active = false) : Completion l s .grst (s.writeGcnt 0#32).succeed
  /-- GLOAD, outside a walk -/
  | gload (h : s.active = false) : Completion l s .gload (s.writeGcnt l.a).succeed
  /-- SKIL, with a valid pair -/
  | skil (n p : Int) (h : (n = 2 ∨ n = 3) ∧ 0 ≤ p ∧ n * p ≤ 32) : Completion l s (.skil n p)
      (s.writeResults (skilling (maskIndex l.a n.toNat p.toNat) n.toNat p.toNat) 0#32 0#32 0#32).succeed
  /-- DEC, with a valid pair -/
  | dec (n p : Int) (h : (n = 2 ∨ n = 3) ∧ 0 ≤ p ∧ n * p ≤ 32) : Completion l s (.dec n p)
      (s.writeCoords (maskIndex l.a n.toNat p.toNat) n.toNat p.toNat 0#32).succeed
  /-- ENC, with a valid pair -/
  | enc (n p : Int) (h : (n = 2 ∨ n = 3) ∧ 0 ≤ p ∧ n * p ≤ 32) : Completion l s (.enc n p)
      (s.writeResults (encodeCoords (maskCoord l.a p.toNat) (maskCoord l.b p.toNat) (maskCoord l.c p.toNat) n.toNat
        p.toNat) 0#32 0#32 0#32).succeed
  /-- WSTART, with a valid pair -/
  | wstart (n p : Int) (h : (n = 2 ∨ n = 3) ∧ 0 ≤ p ∧ n * p ≤ 32) : Completion l s (.wstart n p)
      (s.startWalk (BitVec.ofInt 8 n) (BitVec.ofInt 8 p)).succeed
  /-- WSTEP, before the last vertex -/
  | wstep (h : s.active = true) (hm : s.gcnt ≠ mask (s.wn.toNat * s.wp.toNat)) : Completion l s .wstep
      ((s.writeCoords (walkIndex s.gcnt s.wn.toNat s.wp.toNat) s.wn.toNat s.wp.toNat
        (walkIndex s.gcnt s.wn.toNat s.wp.toNat)).writeGcnt (s.gcnt + 1#32)).succeed
  /-- WSTEP, at the last vertex -/
  | wlast (h : s.active = true) (hm : s.gcnt = mask (s.wn.toNat * s.wp.toNat)) : Completion l s .wstep
      (s.writeCoords (walkIndex s.gcnt s.wn.toNat s.wp.toNat) s.wn.toNat s.wp.toNat
        (walkIndex s.gcnt s.wn.toNat s.wp.toNat)).finishWalk.succeed
  /-- WSTOP -/
  | wstop : Completion l s .wstop s.stopWalk.succeed

/-- If `exec` answers a next state, a command was pending and this is what it did. -/
theorem exec_next {i : Instr} {s t : State} (h : exec i s = .next t) :
    ∃ l, s.pend = some l ∧ Completion l s i t := by
  cases i <;> obtain ⟨l, hl, hk⟩ := withLatch_next h <;> refine ⟨l, hl, ?_⟩
  case nop => cases hk; exact .nop
  case gray => cases hk; exact .gray
  case ginv => cases hk; exact .ginv
  case gnext => split at hk <;> cases hk; exacts [.gnextInWalk ‹_›, .gnext (by simp_all)]
  case grst => split at hk <;> cases hk; exacts [.grstInWalk ‹_›, .grst (by simp_all)]
  case gload => split at hk <;> cases hk; exacts [.gloadInWalk ‹_›, .gload (by simp_all)]
  case skil n p => split at hk <;> cases hk; exacts [.badSkil n p _ ‹_›, .skil n p (checkNP_eq_none.mp ‹_›)]
  case dec n p => split at hk <;> cases hk; exacts [.badDec n p _ ‹_›, .dec n p (checkNP_eq_none.mp ‹_›)]
  case enc n p => split at hk <;> cases hk; exacts [.badEnc n p _ ‹_›, .enc n p (checkNP_eq_none.mp ‹_›)]
  case wstart n p => split at hk <;> cases hk; exacts [.badWstart n p _ ‹_›, .wstart n p (checkNP_eq_none.mp ‹_›)]
  case wstep =>
    dsimp only at hk
    split_ifs at hk with h1 h2 <;> cases hk
    exacts [.wlast h1 h2, .wstep h1 h2, .noWalk (by simpa using h1)]
  case wstop => cases hk; exact .wstop

/-- With a command pending, every command completes (60_exceptions.md R200). -/
theorem exec_completes {s : State} {l : Pending} (h : s.pend = some l) (i : Instr) : ∃ t, exec i s = .next t := by
  cases i <;>
    simp only [exec, execNop, execGray, execGinv, execGnext, execGrst, execGload, execSkil, execDec, execEnc,
      execWstart, execWstep, execWstop, withLatch_some h] <;>
    first | exact ⟨_, rfl⟩ | (split <;> first | exact ⟨_, rfl⟩ | (split <;> exact ⟨_, rfl⟩))

/-- A completion of a word is IllegalCommand's failure, or what its command did. -/
theorem completeCommand_next {cw : Word} {s t : State} (h : completeCommand cw s = .next t) :
    t = s.fail .illegalCommand ∨ ∃ i l, decode cw = .ok i ∧ s.pend = some l ∧ Completion l s i t := by
  unfold completeCommand at h
  split at h
  · rename_i i hi
    obtain ⟨l, hl, hc⟩ := exec_next h
    exact .inr ⟨i, l, hi, hl, hc⟩
  · exact .inl (by simpa using h.symm)

/-- An engine turn never stops. -/
theorem engineTurn_completes (s : State) : ∃ t, engineTurn s = .next t := by
  unfold engineTurn
  split
  · rename_i l _ hp
    unfold completeCommand
    split
    exacts [exec_completes hp _, ⟨_, rfl⟩]
  · exact ⟨_, rfl⟩

/-- An engine turn with a command pending completes it; any other leaves the state as it is. -/
theorem engineTurn_next {s t : State} (h : engineTurn s = .next t) :
    (t = s ∧ ¬(s.busy = true ∧ s.pend.isSome)) ∨
    (∃ l, s.busy = true ∧ s.pend = some l ∧
      (t = s.fail .illegalCommand ∨ ∃ i, decode l.cw = .ok i ∧ Completion l s i t)) := by
  unfold engineTurn at h
  split at h
  · rename_i l hb hp
    rcases completeCommand_next h with ht | ⟨i, l', hi, hl', hc⟩
    · exact .inr ⟨l, hb, hp, .inl ht⟩
    · obtain rfl : l = l' := by rw [hp] at hl'; exact Option.some.inj hl'
      exact .inr ⟨l, hb, hp, .inr ⟨i, hi, hc⟩⟩
  · rename_i hne
    refine .inl ⟨by simpa using h.symm, ?_⟩
    rintro ⟨hb, hp⟩
    obtain ⟨l, hl⟩ := Option.isSome_iff_exists.mp hp
    exact hne l hb hl

/-- A completion takes no event off the schedule. -/
theorem Completion.inputs_eq {l : Pending} {s t : State} {i : Instr} (h : Completion l s i t) : t.inputs = s.inputs := by
  cases h <;> rfl

/-- A completion, of either kind, leaves the engine idle with CC set (60_exceptions.md R201, R202). -/
theorem Completion.idle {l : Pending} {s t : State} {i : Instr} (h : Completion l s i t) :
    t.cc = true ∧ t.busy = false ∧ t.pend = none := by
  cases h <;> exact ⟨rfl, rfl, rfl⟩

/-- With a decoded command pending, the engine's turn is its `exec` (30_encoding.md R91). -/
theorem engineTurn_exec {s : State} {l : Pending} {i : Instr} (hb : s.busy = true) (hp : s.pend = some l)
    (hd : decode l.cw = .ok i) : engineTurn s = exec i s := by
  simp only [engineTurn, hb, hp, completeCommand, hd]

/-- Everything one event can do. -/
theorem takeEvent_next {e : Event} {s t : State} (h : takeEvent e s = .next t) :
    (∃ off r, e = .read off 32 ∧ regAt off = some r ∧ t = s.reply (s.toEngine.regRead r)) ∨
    (∃ off v r, e = .write off 32 v ∧ regAt off = some r ∧ t = s.regWrite r v) ∨
    (e = .reset ∧ t = s.resetEngine) ∨ (e = .engine ∧ engineTurn s = .next t) := by
  cases e with
  | read off width =>
    obtain ⟨rfl, r, hr, ht⟩ := hostRead_next h
    exact .inl ⟨off, r, rfl, hr, ht⟩
  | write off width v =>
    obtain ⟨rfl, r, hr, ht⟩ := hostWrite_next h
    exact .inr (.inl ⟨off, v, r, rfl, hr, ht⟩)
  | reset => exact .inr (.inr (.inl ⟨rfl, by simpa [takeEvent] using h.symm⟩))
  | engine => exact .inr (.inr (.inr ⟨rfl, h⟩))

/-- Everything one step can do: an engine turn where nothing is scheduled, or the first scheduled event. -/
theorem step_next {s t : State} (h : step s = .next t) :
    (s.inputs = [] ∧ engineTurn s = .next t) ∨
    (∃ e rest, s.inputs = e :: rest ∧ takeEvent e { s with inputs := rest } = .next t) := by
  unfold step nextStep at h
  split at h
  · rename_i hi; exact .inl ⟨hi, h⟩
  · rename_i e rest hi; exact .inr ⟨e, rest, hi, h⟩

/-- A run of k + 1 steps whose first step answers `t` is a run of k steps from `t`. -/
theorem run_succ {k : Nat} {s t : State} (h : step s = .next t) :
    Host.Core.run Sys2Proof.core (k + 1) s = Host.Core.run Sys2Proof.core k t := by
  have h' : Sys2Proof.core.step s = .next t := h
  simp only [Host.Core.run, h']

end Sys2Proof.Machine
end

