-- ==== Sys2Proof/Tests/Slice0.lean ====
section
/-! SUPPORT. Tests on fixed values, every expected value taken from spec/ (the vector or rule is named), and for every
statement with hypotheses a witness: concrete values that meet them together. -/

namespace Sys2Proof.Tests

open Sys2Proof Sys2Proof.Machine Sys2Proof.Safety

/-! ### Small states, and what a step answered -/

/-- The state a step answered, if it answered one. -/
def after : Result → Option State
  | .next t => some t
  | .fault _ => none
  | .refused _ => none

/-- `s` with operands, one command word pending and the engine to move: the state right before a completion. -/
def ready (w : Nat) (a b c : Word) (s : State) : State :=
  { s with opa := a, opb := b, opc := c }.withFetchWord 32 w

/-- RES0 to RES3, STATUS and GCNT after one step. -/
def outcome (s : State) : Option (List Word) :=
  (after (step s)).map fun t => [t.res0, t.res1, t.res2, t.res3, t.statusWord, t.gcnt]

/-- Reset, but for a command in the latch. -/
def held (w a : Word) : State := { State.reset with busy := true, pend := some ⟨w, a, 0#32, 0#32⟩ }

/-- Reset, but for an active walk of (n, p) at GCNT = g. -/
def walking (n p : Byte) (g : Word) : State := { State.reset with active := true, wn := n, wp := p, gcnt := g }

/-- An active walk with a WSTEP in the latch. -/
def heldWalking (n p : Byte) (g : Word) : State :=
  { walking n p g with busy := true, pend := some ⟨0x31#32, 0#32, 0#32, 0#32⟩ }

/-! ### Well-formedness refuses what no byte can carry (30_encoding.md R82, R92) -/

theorem test_skil_n_too_large : (Instr.skil 128 2).wellFormed = false := by decide
theorem test_skil_p_too_small : (Instr.skil 2 (-129)).wellFormed = false := by decide
theorem test_dec_n_too_small : (Instr.dec (-129) 2).wellFormed = false := by decide
theorem test_dec_p_too_large : (Instr.dec 2 128).wellFormed = false := by decide
theorem test_enc_n_too_large : (Instr.enc 128 2).wellFormed = false := by decide
theorem test_enc_p_too_small : (Instr.enc 2 (-129)).wellFormed = false := by decide
theorem test_wstart_n_too_small : (Instr.wstart (-129) 2).wellFormed = false := by decide
theorem test_wstart_p_too_large : (Instr.wstart 2 128).wellFormed = false := by decide
theorem test_wellFormed_extremes :
    (Instr.skil (-128) 127).wellFormed = true ∧ (Instr.wstart 127 (-128)).wellFormed = true ∧
    Instr.wstep.wellFormed = true := by decide

/-! ### Decoding of every command, from a word written bit by bit: RSV, PREC, NDIM, OPC (30_encoding.md R81, R83) -/

theorem test_decode_nop : decode 0b00000000000000000000000000000000#32 = .ok .nop := by decide
theorem test_decode_gray : decode 0b00000000000000000000000000000001#32 = .ok .gray := by decide
theorem test_decode_ginv : decode 0b00000000000000000000000000000010#32 = .ok .ginv := by decide
theorem test_decode_gnext : decode 0b00000000000000000000000000000011#32 = .ok .gnext := by decide
theorem test_decode_grst : decode 0b00000000000000000000000000000100#32 = .ok .grst := by decide
theorem test_decode_gload : decode 0b00000000000000000000000000000101#32 = .ok .gload := by decide
theorem test_decode_skil : decode 0b00000000000001000000001000010000#32 = .ok (.skil 2 4) := by decide
theorem test_decode_dec : decode 0b00000000000010100000001100100000#32 = .ok (.dec 3 10) := by decide
theorem test_decode_enc : decode 0b00000000111111100000001000100001#32 = .ok (.enc 2 (-2)) := by decide
theorem test_decode_wstart : decode 0b00000000000100001000000000110000#32 = .ok (.wstart (-128) 16) := by decide
theorem test_decode_wstep : decode 0b00000000101010110001001000110001#32 = .ok .wstep := by decide
theorem test_decode_wstop : decode 0b00000000000000000000000000110010#32 = .ok .wstop := by decide

/-- RSV is checked before OPC (30_encoding.md R84, R91). -/
theorem test_decode_reserved : decode 0x80000031#32 = .error (.reservedByte 0x80#8) := by decide
/-- The first unassigned opcode (30_encoding.md R85). -/
theorem test_decode_unassigned : decode 0x00000006#32 = .error (.unassignedOpcode 0x06#8) := by decide
/-- The lowest byte lane carries OPC (20_memory.md R64), and the bytes after the word are left. -/
theorem test_decode_bytes :
    decodeBytes [0x30#8, 0x02#8, 0xFF#8, 0x00#8, 0x77#8] = .ok (.wstart 2 (-1), [0x77#8]) := by decide
theorem test_decode_truncated : decodeBytes [0x30#8, 0x02#8, 0x02#8] = .error .truncated := by decide
theorem test_table_word : decodeTableWord 32 0x00030330 = some (.wstart 3 3) := by decide
/-- The assembler's examples (30_encoding.md R92). -/
theorem test_encode : encode (.wstart 2 (-1)) = 0x00FF0230#32 ∧ encode (.dec 3 10) = 0x000A0320#32 := by decide

/-! ### One completion per command (95_test_vectors.md) -/

/-- V-W7: NOP on STATUS 0x406 gives 0x002. -/
theorem test_nop : outcome (ready 0x00000000 0#32 0#32 0#32 { State.reset with cc := true, err := true, ecode := 4#4 }) =
    some [0#32, 0#32, 0#32, 0#32, 0x002#32, 0#32] := by decide
/-- V-G1, and the ignored fields of V-G6. -/
theorem test_gray : outcome (ready 0x00FF7F01 0x12345678#32 0#32 0#32 State.reset) =
    some [0x1B2E7D44#32, 0#32, 0#32, 0#32, 0x002#32, 0#32] := by decide
/-- V-G2. -/
theorem test_ginv : outcome (ready 0x00000002 0x12345678#32 0#32 0#32 State.reset) =
    some [0x1C279BAF#32, 0#32, 0#32, 0#32, 0x002#32, 0#32] := by decide
/-- V-G4, step 2: the wrap. -/
theorem test_gnext : outcome (ready 0x00000003 0#32 0#32 0#32 { State.reset with gcnt := 0xFFFFFFFF#32 }) =
    some [0x80000000#32, 0xFFFFFFFF#32, 0#32, 0#32, 0x022#32, 0#32] := by decide
/-- P4: GNEXT during a walk. -/
theorem test_gnext_in_walk : outcome (ready 0x00000003 0#32 0#32 0#32 (walking 3#8 2#8 5#32)) =
    some [0#32, 0#32, 0#32, 0#32, 0x516#32, 5#32] := by decide
/-- V-G5. -/
theorem test_grst : outcome (ready 0x00000004 0#32 0#32 0#32 { State.reset with gcnt := 7#32, res0 := 9#32 }) =
    some [9#32, 0#32, 0#32, 0#32, 0x002#32, 0#32] := by decide
/-- P2: GLOAD 0xFFFFFFFE leaves RES0. -/
theorem test_gload : outcome (ready 0x00000005 0xFFFFFFFE#32 0#32 0#32 { State.reset with res0 := 0x2D#32 }) =
    some [0x2D#32, 0#32, 0#32, 0#32, 0x002#32, 0xFFFFFFFE#32] := by decide
/-- V-S4. -/
theorem test_skil : outcome (ready 0x000A0310 0x12345678#32 0#32 0#32 State.reset) =
    some [0x1690AF94#32, 0#32, 0#32, 0#32, 0x002#32, 0#32] := by decide +kernel
/-- V-S6: SKIL 3, 11 is ArithmeticOverflow. -/
theorem test_skil_overflow : outcome (ready 0x000B0310 5#32 0#32 0#32 { State.reset with res1 := 3#32 }) =
    some [0#32, 3#32, 0#32, 0#32, 0x306#32, 0#32] := by decide
/-- V-C1. -/
theorem test_dec : outcome (ready 0x000A0320 0x12345678#32 0#32 0#32 State.reset) =
    some [82#32, 778#32, 222#32, 0#32, 0x002#32, 0#32] := by decide +kernel
/-- V-C3: DEC 2, 17 is InvalidPrecision. -/
theorem test_dec_precision : outcome (ready 0x00110220 5#32 0#32 0#32 State.reset) =
    some [0#32, 0#32, 0#32, 0#32, 0x206#32, 0#32] := by decide
/-- V-C2. -/
theorem test_enc : outcome (ready 0x00020321 1#32 2#32 3#32 State.reset) =
    some [0x1D#32, 0#32, 0#32, 0#32, 0x002#32, 0#32] := by decide +kernel
/-- V-C2: OPC is not read for n = 2, and high coordinate bits are ignored. -/
theorem test_enc_masks : outcome (ready 0x00030221 0xFFFFFFFF#32 0xFFFFFFFF#32 0xFFFFFFFF#32 State.reset) =
    some [0x3F#32, 0#32, 0#32, 0#32, 0x002#32, 0#32] := by decide +kernel
/-- V-W7: WSTART 2, 1 restarts a (3, 2) walk at GCNT = 5. -/
theorem test_wstart : (after (step (ready 0x00010230 0#32 0#32 0#32 (walking 3#8 2#8 5#32)))).map
    (fun t => (t.wcfgWord, t.gcnt, t.statusWord)) = some (0x102#32, 0#32, 0x012#32) := by decide
/-- V-W7: a failed WSTART 2, 17 leaves the walk. -/
theorem test_wstart_failed : (after (step (ready 0x00110230 0#32 0#32 0#32 (walking 3#8 2#8 5#32)))).map
    (fun t => (t.wcfgWord, t.gcnt, t.statusWord)) = some (0x203#32, 5#32, 0x216#32) := by decide
/-- V-W5, k = 50: h = 0x2B, (2, 1, 3). -/
theorem test_wstep : outcome (ready 0x00000031 0#32 0#32 0#32 (walking 3#8 2#8 50#32)) =
    some [2#32, 1#32, 3#32, 0x2B#32, 0x012#32, 51#32] := by decide +kernel
/-- V-W2, k = 15: the last vertex. -/
theorem test_wstep_last : outcome (ready 0x00000031 0#32 0#32 0#32 (walking 2#8 2#8 15#32)) =
    some [3#32, 0#32, 0#32, 0xA#32, 0x00A#32, 0#32] := by decide +kernel
/-- P4: WSTOP keeps GCNT. -/
theorem test_wstop : outcome (ready 0x00000032 0#32 0#32 0#32 (walking 3#8 2#8 6#32)) =
    some [0#32, 0#32, 0#32, 0#32, 0x002#32, 6#32] := by decide

/-! ### Host accesses -/

/-- P4: the illegal word 0x01000001. -/
theorem test_illegal : outcome (ready 0x01000001 0#32 0#32 0#32 State.reset) =
    some [0#32, 0#32, 0#32, 0#32, 0x406#32, 0#32] := by decide
/-- A CMD write while BUSY is dropped with OVR (10_state.md R25). -/
theorem test_overrun : (after (step { held 0x3#32 0#32 with inputs := [.write 0x0C#6 32 0x1#32] })).map
    (fun t => (t.cmd, t.statusWord, t.pend.isSome)) = some (0#32, 0x041#32, true) := by decide
/-- STATUS W1C clears CC, DONE, WRAP and OVR only (10_state.md R24). -/
theorem test_status_clear : (after (step { State.reset with
      cc := true, err := true, done := true, active := true, wrap := true, ovr := true, ecode := 5#4,
      inputs := [.write 0x08#6 32 0xFFFFFFFF#32] })).map (fun t => t.statusWord) = some 0x514#32 := by decide
/-- The soft reset discards the rest of the CTRL write and the pending command (70_reset_and_hazards.md R242, R243). -/
theorem test_soft_reset : (after (step { held 0x3#32 0#32 with inputs := [.write 0x04#6 32 0x7#32] })).map
    (fun t => t.toEngine) = some Engine.reset := by decide
/-- ID reads 0x48534643 (10_state.md R21). -/
theorem test_read_id : (after (step { State.reset with inputs := [.read 0x00#6 32] })).map (fun t => t.replies) =
    some [0x48534643#32] := by decide
/-- A misaligned access is refused (20_memory.md R65). -/
theorem test_misaligned : step { State.reset with inputs := [.read 0x02#6 32] } = .refused (.misalignedAccess 0x02#6) :=
  rfl
/-- A narrow access is refused (20_memory.md R65). -/
theorem test_narrow : step { State.reset with inputs := [.write 0x10#6 8 0#32] } = .refused (.accessWidth 8) := rfl

/-! ### Witnesses: values that meet the hypotheses of each statement -/

/-- The hypotheses of `SelectedBy`: a word `cw` with that opcode, and the state `held bad` with an illegal word of the
same opcode pending. -/
abbrev SelectedHyps (opc cw bad : Word) : Prop :=
  cw &&& 0xFF0000FF#32 = opc ∧ (held bad 0#32).busy = true ∧
  (held bad 0#32).pend = some ⟨bad, 0#32, 0#32, 0#32⟩ ∧ bad &&& 0xFF#32 = opc ∧ bad >>> 24 ≠ 0#32

/-- The pairs (n, p) at the edges of the three failing cases and of the valid one. -/
abbrev PairEdges : Prop :=
  ((1 : Int) ≠ 2 ∧ (1 : Int) ≠ 3) ∧ ((4 : Int) ≠ 2 ∧ (4 : Int) ≠ 3) ∧ ((2 : Int) = 2 ∨ (2 : Int) = 3) ∧ (-1 : Int) < 0 ∧
  (0 : Int) ≤ 17 ∧ (32 : Int) < 2 * 17 ∧ (0 : Int) ≤ 11 ∧ (32 : Int) < 3 * 11 ∧
  ValidPair 2 0 ∧ ValidPair 2 16 ∧ ValidPair 3 0 ∧ ValidPair 3 10

theorem witness_NopRule : SelectedHyps 0x00#32 0x00AB1200#32 0x01000000#32 ∧
    (held 0x00#32 0#32).pend = some ⟨0x00#32, 0#32, 0#32, 0#32⟩ ∧
    ({ State.reset with cc := true, err := true, ecode := 4#4 } : State).statusWord = 0x406#32 := by decide

theorem witness_GrayRule : SelectedHyps 0x01#32 0x00FF7F01#32 0x01000001#32 ∧
    (held 0x01#32 0x2D#32).pend = some ⟨0x01#32, 0x2D#32, 0#32, 0#32⟩ ∧
    ({ State.reset with opa := 0x2D#32 } : State).busy = false ∧
    ({ State.reset with opa := 0x2D#32 } : State).opa = 0x2D#32 := by decide

theorem witness_GinvRule : SelectedHyps 0x02#32 0x00FFFF02#32 0xFF000002#32 ∧
    (held 0x02#32 0x3B#32).pend = some ⟨0x02#32, 0x3B#32, 0#32, 0#32⟩ ∧
    ({ State.reset with opa := 0x3B#32 } : State).busy = false ∧
    ({ State.reset with opa := 0x3B#32 } : State).opa = 0x3B#32 := by decide

theorem witness_GnextRule : SelectedHyps 0x03#32 0x00000003#32 0x01000003#32 ∧
    (heldWalking 2#8 2#8 5#32).pend.isSome = true ∧ (heldWalking 2#8 2#8 5#32).active = true ∧
    (held 0x03#32 0#32).pend = some ⟨0x03#32, 0#32, 0#32, 0#32⟩ ∧ (held 0x03#32 0#32).active = false ∧
    ({ State.reset with gcnt := 0xFFFFFFFF#32 } : State).gcnt = 0xFFFFFFFF#32 ∧
    ({ State.reset with gcnt := 0xFFFFFFFF#32 } : State).busy = false ∧
    ({ State.reset with gcnt := 0xFFFFFFFF#32 } : State).active = false := by decide

theorem witness_GrstRule : SelectedHyps 0x04#32 0x00000004#32 0x01000004#32 ∧
    (heldWalking 2#8 2#8 5#32).pend.isSome = true ∧ (heldWalking 2#8 2#8 5#32).active = true ∧
    (held 0x04#32 0#32).pend = some ⟨0x04#32, 0#32, 0#32, 0#32⟩ ∧ (held 0x04#32 0#32).active = false ∧
    (held 0x04#32 0#32).gcnt = 0#32 ∧ ({ State.reset with gcnt := 7#32 } : State).gcnt = 7#32 ∧
    ({ State.reset with gcnt := 7#32 } : State).busy = false ∧
    ({ State.reset with gcnt := 7#32 } : State).active = false := by decide

theorem witness_GloadRule : SelectedHyps 0x05#32 0x00000005#32 0x01000005#32 ∧
    (heldWalking 2#8 2#8 5#32).pend.isSome = true ∧ (heldWalking 2#8 2#8 5#32).active = true ∧
    (held 0x05#32 9#32).pend = some ⟨0x05#32, 9#32, 0#32, 0#32⟩ ∧ (held 0x05#32 9#32).active = false ∧
    ({ State.reset with opa := 0xFFFFFFFF#32 } : State).opa = 0xFFFFFFFF#32 ∧
    ({ State.reset with opa := 0xFFFFFFFF#32 } : State).busy = false ∧
    ({ State.reset with opa := 0xFFFFFFFF#32 } : State).active = false := by decide

theorem witness_SkilRule : SelectedHyps 0x10#32 0x00040210#32 0x01000010#32 ∧
    (held 0x10#32 5#32).pend = some ⟨0x10#32, 5#32, 0#32, 0#32⟩ ∧ PairEdges ∧
    ({ State.reset with opa := 0xCD#32 } : State).busy = false ∧
    ({ State.reset with opa := 0xCD#32 } : State).opa = 0xCD#32 := by decide

theorem witness_DecRule : SelectedHyps 0x20#32 0x00040220#32 0x01000020#32 ∧
    (held 0x20#32 5#32).pend = some ⟨0x20#32, 5#32, 0#32, 0#32⟩ ∧ PairEdges ∧
    ({ State.reset with opa := 0xCE#32 } : State).busy = false ∧
    ({ State.reset with opa := 0xCE#32 } : State).opa = 0xCE#32 := by decide

theorem witness_EncRule : SelectedHyps 0x21#32 0x00020221#32 0x01000021#32 ∧
    (held 0x21#32 5#32).pend = some ⟨0x21#32, 5#32, 0#32, 0#32⟩ ∧ PairEdges ∧
    ({ State.reset with opa := 2#32, opb := 3#32 } : State).busy = false ∧
    ({ State.reset with opa := 2#32, opb := 3#32 } : State).opa = 2#32 ∧
    ({ State.reset with opa := 2#32, opb := 3#32 } : State).opb = 3#32 := by decide

theorem witness_WstartRule : SelectedHyps 0x30#32 0x00FF0230#32 0x01000030#32 ∧
    (held 0x30#32 5#32).pend = some ⟨0x30#32, 5#32, 0#32, 0#32⟩ ∧ PairEdges ∧ State.reset.busy = false := by decide

/-- No walk, a vertex before the last, and the last one, at the largest and the smallest sizes. -/
theorem witness_WstepRule : SelectedHyps 0x31#32 0x00AB1231#32 0x80000031#32 ∧
    (held 0x31#32 0#32).pend.isSome = true ∧ (held 0x31#32 0#32).active = false ∧
    (heldWalking 2#8 16#8 0xFFFFFFFE#32).pend = some ⟨0x31#32, 0#32, 0#32, 0#32⟩ ∧
    (heldWalking 2#8 16#8 0xFFFFFFFE#32).active = true ∧
    2 = (heldWalking 2#8 16#8 0xFFFFFFFE#32).wn.toNat ∧ 16 = (heldWalking 2#8 16#8 0xFFFFFFFE#32).wp.toNat ∧
    (heldWalking 2#8 16#8 0xFFFFFFFE#32).gcnt ≠ mask (2 * 16) ∧
    (heldWalking 2#8 16#8 0xFFFFFFFF#32).gcnt = mask (2 * 16) ∧
    (heldWalking 3#8 10#8 0x3FFFFFFF#32).gcnt = mask (3 * 10) ∧ (heldWalking 2#8 0#8 0#32).gcnt = mask (2 * 0) := by
  decide +kernel

theorem witness_WstopRule : SelectedHyps 0x32#32 0x00000032#32 0x01000032#32 ∧
    (heldWalking 2#8 2#8 5#32).pend = some ⟨0x31#32, 0#32, 0#32, 0#32⟩ := by decide

theorem witness_GinvClosedForm : 32 ≥ 32 ∧ 31 < 32 ∧ 0 < 32 := by decide

theorem witness_GrayCodeLaws : 30 < 31 ∧ 0xFFFFFFFE#32 ≠ 0xFFFFFFFF#32 ∧ (15#32).toNat < 2 ^ 4 ∧ (0#32).toNat < 2 ^ 0 := by
  decide

theorem witness_SkillingStepLanes : 3 ≤ 29 ∧ 29 < 32 ∧ 2 < 3 ∧ pos 3 9 2 < 32 ∧ 2 ≤ 31 ∧ 31 < 32 ∧ 0 < 2 ∧
    pos 2 15 0 < 32 := by decide

theorem witness_SkillingPermutation : ValidPair 2 16 ∧ (0xFFFFFFFF#32).toNat < 2 ^ (2 * 16) ∧ ValidPair 3 10 ∧
    (0x3FFFFFFF#32).toNat < 2 ^ (3 * 10) ∧ ValidPair 2 0 ∧ (0#32).toNat < 2 ^ (2 * 0) := by decide

theorem witness_SkillingControlBits : ValidPair 3 10 ∧ 3 ≤ 29 ∧ 29 < 3 * 10 ∧ 3 * 10 - 3 ≤ 27 ∧ 27 < 3 * 10 := by decide

theorem witness_SkillingWordParallel : ValidPair 2 16 ∧ (0xFFFFFFFF#32).toNat < 2 ^ (2 * 16) ∧ ValidPair 3 10 ∧
    (0x3FFFFFFF#32).toNat < 2 ^ (3 * 10) := by decide

theorem witness_DecodeLanes : ValidPair 3 10 ∧ 2 < 3 ∧ 9 < 10 ∧ ValidPair 2 16 ∧ 1 < 2 ∧ 15 < 16 := by decide

theorem witness_EncodeLanes : ValidPair 3 10 ∧ 9 < 10 ∧ 3 = 3 ∧ ValidPair 2 16 ∧ 15 < 16 := by decide

theorem witness_CodecRoundTrip : ValidPair 2 16 ∧ (0xFFFF#32).toNat < 2 ^ 16 ∧ (0xFFFFFFFF#32).toNat < 2 ^ (2 * 16) ∧
    ValidPair 3 10 ∧ (0x3FF#32).toNat < 2 ^ 10 ∧ (0x3FFFFFFF#32).toNat < 2 ^ (3 * 10) := by decide

theorem witness_DecodeOfEncode : (Instr.skil (-128) 127).wellFormed = true := by decide

theorem witness_EncodeOfDecode : decode 0x00FF7F01#32 = .ok .gray ∧ decode 0x00FF0230#32 = .ok (.wstart 2 (-1)) ∧
    decode 0x00807F20#32 = .ok (.dec 127 (-128)) := by decide

theorem witness_AssemblerWords : (-128 : Int) ≤ -128 ∧ (-128 : Int) ≤ 127 ∧ (-128 : Int) ≤ 127 ∧ (127 : Int) ≤ 127 := by
  decide

theorem witness_OperandAssembly : decode 0x007F8010#32 = .ok (.skil (-128) 127) ∧
    decode 0x000A0320#32 = .ok (.dec 3 10) ∧ decode 0x00FE0221#32 = .ok (.enc 2 (-2)) ∧
    decode 0x00FF0230#32 = .ok (.wstart 2 (-1)) := by decide

theorem witness_DecoderTotal : 0x000000FF#32 >>> 24 = 0#32 ∧ 0x00FFFF32#32 >>> 24 = 0#32 := by decide

theorem witness_IgnoredFields : 0x00AB1231#32 &&& 0xFF0000FF#32 = 0x00000031#32 &&& 0xFF0000FF#32 ∧
    0x00AB1231#32 &&& 0xFF#32 = 0x31#32 ∧ 0x01000001#32 &&& 0xFF0000FF#32 = 0x01FFFF01#32 &&& 0xFF0000FF#32 ∧
    0x01000001#32 &&& 0xFF#32 = 0x01#32 := by decide

theorem witness_StepRunsDecoded : (held 0x00FF0230#32 0#32).busy = true ∧
    (held 0x00FF0230#32 0#32).pend = some ⟨0x00FF0230#32, 0#32, 0#32, 0#32⟩ ∧ (held 0x00FF0230#32 0#32).inputs = [] ∧
    decode 0x00FF0230#32 = .ok (.wstart 2 (-1)) ∧ decode 0x01000001#32 = .error (.reservedByte 1#8) ∧
    (State.reset.withFetchWord 32 0x31).busy = true ∧ (State.reset.withFetchWord 32 0x31).pend.isSome = true ∧
    (State.reset.withFetchWord 32 0x31).inputs = [.engine] := by decide

theorem witness_IllegalCommandFails : (held 0x01000001#32 0#32).busy = true ∧
    (held 0x01000001#32 0#32).pend = some ⟨0x01000001#32, 0#32, 0#32, 0#32⟩ ∧ 0x01000001#32 >>> 24 ≠ 0#32 ∧
    0x000000FF#32 &&& 0xFF#32 ∉ [0x00#32, 0x01#32, 0x02#32, 0x03#32, 0x04#32, 0x05#32, 0x10#32, 0x20#32, 0x21#32, 0x30#32,
      0x31#32, 0x32#32] := by decide

/-- The last two clauses: a failing command with both enables on. -/
theorem witness_CtrlRegister : (0xFFFFFFFF#32).getLsbD 2 = true ∧ (0xFFFFFFFB#32).getLsbD 2 = false ∧ 2 ≤ 31 ∧
    ({ held 0xFF#32 0#32 with cie := true, eie := true } : State).busy = true ∧
    ({ held 0xFF#32 0#32 with cie := true, eie := true } : State).pend = some ⟨0xFF#32, 0#32, 0#32, 0#32⟩ ∧
    (after (engineTurn { held 0xFF#32 0#32 with cie := true, eie := true })).map (fun t => t.err) = some true := by decide

theorem witness_StatusFields : 12 ≤ 31 := by decide

theorem witness_CmdRegister : (held 0x3#32 0#32).busy = true ∧ State.reset.busy = false ∧
    decode 0xFF#32 = .error (.unassignedOpcode 0xFF#8) := by decide

theorem witness_OperandRegisters : ∃ t, exec .gload (held 0x5#32 7#32) = .next t := ⟨_, rfl⟩

theorem witness_ReadOnlyWindow : (∃ t, hostRead 0x08#6 32 (held 0x5#32 7#32) = .next t) ∧
    0x3C#6 ∈ [0x34#6, 0x38#6, 0x3C#6] ∧ 12 ≤ 31 ∧ 16 ≤ 31 ∧ 2 ≤ 31 ∧
    0xFFFFFFF8#32 &&& 0x7#32 = 0x0#32 &&& 0x7#32 ∧ 0xFFFFF002#32 &&& 0xFFF#32 = 0x2#32 &&& 0xFFF#32 :=
  ⟨⟨_, rfl⟩, by decide⟩

theorem witness_AccessWidthAndAlignment : (32 = 32 ∧ (0x3C#6).toNat % 4 = 0) ∧ 8 ≠ 32 ∧ (0x3F#6).toNat % 4 ≠ 0 := by decide

theorem witness_WindowAddresses : Config.base + 64 ≤ Config.base + 64 ∧ windowOffset Config.base = some 0x00#6 := by
  simp [windowOffset]

theorem witness_LittleEndianLanes : 3 < 4 ∧ 7 < 8 ∧ 0xFFFFFFFF < 2 ^ 32 := by decide

theorem witness_IrqDeassertion : (0x2#32).getLsbD 1 = true ∧ (0x4#32).getLsbD 0 = false ∧ (0x4#32).getLsbD 1 = false ∧
    (∃ t, hostWrite 0x08#6 32 0x2#32 (held 0x3#32 0#32) = .next t) ∧
    (∃ t, hostWrite 0x04#6 32 0x4#32 (held 0x3#32 0#32) = .next t) ∧
    (∃ t, takeEvent .reset (held 0x3#32 0#32) = .next t) ∧ (held 0x3#32 0#32).busy = true ∧
    (held 0x3#32 0#32).pend = some ⟨0x3#32, 0#32, 0#32, 0#32⟩ ∧ ∃ t, engineTurn (held 0x3#32 0#32) = .next t :=
  ⟨rfl, rfl, rfl, ⟨_, rfl⟩, ⟨_, rfl⟩, ⟨_, rfl⟩, rfl, rfl, ⟨_, rfl⟩⟩

theorem witness_CheckNPOrder : PairEdges ∧ (held 0x10#32 0#32).pend = some ⟨0x10#32, 0#32, 0#32, 0#32⟩ ∧
    checkNP .skilling 2 17 = some .arithmeticOverflow ∧ checkNP .other 3 11 = some .invalidPrecision := by decide

theorem witness_OneCompletion : (held 0x01000001#32 0#32).busy = true ∧
    (held 0x01000001#32 0#32).pend = some ⟨0x01000001#32, 0#32, 0#32, 0#32⟩ := by decide

/-- For each code that a decoded command can report, a completion that reports it. -/
theorem witness_CodesByCommand :
    (after (exec (.skil 1 2) (held 0#32 0#32))).map (fun t => t.ecode) = some 1#4 ∧
    (after (exec (.skil 2 (-1)) (held 0#32 0#32))).map (fun t => t.ecode) = some 2#4 ∧
    (after (exec (.dec 3 11) (held 0#32 0#32))).map (fun t => t.ecode) = some 2#4 ∧
    (after (exec (.skil 2 17) (held 0#32 0#32))).map (fun t => t.ecode) = some 3#4 ∧
    (after (exec .wstep (held 0#32 0#32))).map (fun t => t.ecode) = some 5#4 ∧
    (after (exec .gload (heldWalking 2#8 2#8 5#32))).map (fun t => t.ecode) = some 5#4 := by decide

theorem witness_OutcomeDependsOnLatch :
    (held 0x1#32 9#32).pend = ({ held 0x1#32 9#32 with opa := 7#32, res0 := 1#32 } : State).pend ∧
    (held 0x1#32 9#32).gcnt = ({ held 0x1#32 9#32 with opa := 7#32, res0 := 1#32 } : State).gcnt ∧
    (held 0x1#32 9#32).active = ({ held 0x1#32 9#32 with opa := 7#32, res0 := 1#32 } : State).active ∧
    (∃ t, exec .gray (held 0x1#32 9#32) = .next t) ∧
    ∃ t, exec .gray { held 0x1#32 9#32 with opa := 7#32, res0 := 1#32 } = .next t :=
  ⟨rfl, rfl, rfl, ⟨_, rfl⟩, ⟨_, rfl⟩⟩

theorem witness_ResultsFrame :
    (after (exec (.skil 1 2) (held 0x10#32 0#32))).map (fun t => t.err) = some true ∧
    (∃ t, exec .grst (held 0x4#32 0#32) = .next t) ∧ (∃ t, exec (.wstart 2 2) (held 0x00020230#32 0#32) = .next t) ∧
    ∃ t, step (held 0x1#32 9#32) = .next t :=
  ⟨by decide, ⟨_, rfl⟩, ⟨_, rfl⟩, ⟨_, rfl⟩⟩

/-- Steps that move GCNT, WCFG and ACTIVE. -/
theorem witness_GcntAndWalkFrame :
    (after (step (held 0x5#32 9#32))).map (fun t => t.gcnt) = some 9#32 ∧ (held 0x5#32 9#32).gcnt = 0#32 ∧
    (after (step (held 0x00030230#32 0#32))).map (fun t => (t.wn, t.wp, t.active)) = some (2#8, 3#8, true) ∧
    (held 0x00030230#32 0#32).wn = 0#8 ∧ (held 0x00030230#32 0#32).active = false := by decide

/-- A state with all four bits set steps; a successful WSTART clears DONE, a failed one does not (10_state.md R23). -/
theorem witness_StickyBits :
    (after (step { held 0x3#32 0#32 with cc := true, wrap := true, ovr := true, done := true })).isSome = true ∧
    (after (step { held 0x00020230#32 0#32 with done := true })).map (fun t => t.done) = some false ∧
    (after (step { held 0x00110230#32 0#32 with done := true })).map (fun t => t.done) = some true := by decide

theorem witness_ResetDiscardsPending : ({ held 0x3#32 0#32 with inputs := [.reset] } : State).inputs = .reset :: [] ∧
    (0x5#32).getLsbD 2 = true ∧
    ({ held 0x3#32 0#32 with inputs := [.write 0x04#6 32 0x5#32] } : State).inputs = .write 0x04#6 32 0x5#32 :: [] := by
  decide

/-- A walk at its last vertex with a WSTEP pending has all four invariants, and steps. -/
theorem witness_InvariantKept : EngineInvariant (heldWalking 2#8 2#8 15#32).toEngine ∧
    ∃ t, step (heldWalking 2#8 2#8 15#32) = .next t :=
  ⟨⟨by decide, by decide, by decide, by decide⟩, ⟨_, rfl⟩⟩

theorem witness_ConfigInvariantKept : WalkConfigValid (heldWalking 3#8 10#8 5#32).toEngine ∧
    CodeAssigned { Engine.reset with ecode := 5#4 } ∧ CodeAssigned (heldWalking 3#8 10#8 5#32).toEngine ∧
    ∃ t, step (heldWalking 3#8 10#8 5#32) = .next t :=
  ⟨by decide, by decide, by decide, ⟨_, rfl⟩⟩

theorem witness_OperandsAreLatched : (held 0x1#32 9#32).busy = true ∧ (held 0x1#32 9#32).pend.isSome = true ∧
    ∃ t, engineTurn (held 0x1#32 9#32) = .next t := ⟨rfl, rfl, ⟨_, rfl⟩⟩

theorem witness_LatencyInvisible : (∀ e ∈ [Event.read 0x08#6 32, .write 0x10#6 32 7#32, .write 0x18#6 32 7#32],
      quietEvent e = true) ∧ (held 0x1#32 9#32).busy = true ∧ (held 0x1#32 9#32).pend.isSome = true := by decide

theorem witness_CommandsComplete :
    ({ held 0x1#32 9#32 with inputs := [.read 0x08#6 32, .write 0x0C#6 32 3#32] } : State).busy =
      (held 0x1#32 9#32).pend.isSome ∧
    ∀ e ∈ [Event.read 0x08#6 32, .write 0x0C#6 32 3#32], legalEvent e = true := by decide

theorem witness_WalkProducesVertices : State.reset.busy = false ∧ ValidPair 2 16 ∧ 0xFFFFFFFF < 2 ^ (2 * 16) ∧
    0xFFFFFFFF + 1 = 2 ^ (2 * 16) ∧ ValidPair 3 10 ∧ 0 < 2 ^ (3 * 10) ∧ 0 + 1 ≠ 2 ^ (3 * 10) := by decide

theorem witness_WalkVisitsEveryCell : ValidPair 2 16 ∧ 1 < 2 ∧ 0xFFFFFFFF < 2 ^ (2 * 16) ∧
    (∀ a < 2, walkVertex 2 16 0 a = walkVertex 2 16 0 a) ∧ (0xFFFF#32).toNat < 2 ^ 16 ∧ (0#32).toNat < 2 ^ 16 ∧
    ValidPair 3 0 ∧ (0#32).toNat < 2 ^ 0 :=
  ⟨by decide, by decide, by decide, fun _ _ => rfl, by decide, by decide, by decide, by decide⟩

theorem witness_WalkIsAdjacent : ValidPair 2 16 ∧ 0xFFFFFFFE + 1 < 2 ^ (2 * 16) ∧ ValidPair 3 1 ∧ 6 + 1 < 2 ^ (3 * 1) ∧
    0 < 3 ∧ 1 < 3 ∧ 1 ≠ 0 := by decide

end Sys2Proof.Tests
end

section
/-! SUPPORT. The register window: what a host access reaches, what CTRL, STATUS and WCFG read as in and above their
fields, which bits of a written word matter, and what a completion keeps. -/

namespace Sys2Proof.Machine

/-! ### Host accesses -/

/-- An aligned 32-bit read replies with its register's value (20_memory.md R61). -/
theorem hostRead_of_regAt {off : Offset} {r : Reg} (h : regAt off = some r) (s : State) :
    hostRead off 32 s = .next (s.reply (s.toEngine.regRead r)) := by
  simp only [hostRead, accessTarget_eq_ok.mpr ⟨rfl, h⟩]

/-- An aligned 32-bit write is its register's write (20_memory.md R62). -/
theorem hostWrite_of_regAt {off : Offset} {r : Reg} (h : regAt off = some r) (v : Word) (s : State) :
    hostWrite off 32 v s = .next (s.regWrite r v) := by
  simp only [hostWrite, accessTarget_eq_ok.mpr ⟨rfl, h⟩]

/-- The registers that ignore writes (10_state.md R21, R32). -/
def Reg.readOnly : Reg → Bool
  | .id | .res0 | .res1 | .res2 | .res3 | .gcnt | .wcfg | .reserved => true
  | .ctrl | .status | .cmd | .opa | .opb | .opc => false

theorem State.regWrite_readOnly {r : Reg} (h : r.readOnly = true) (v : Word) (s : State) : s.regWrite r v = s := by
  cases r <;> simp [Reg.readOnly] at h <;> rfl

theorem hostWrite_readOnly {off : Offset} {r : Reg} (hr : regAt off = some r) (h : r.readOnly = true) (v : Word)
    (s : State) : hostWrite off 32 v s = .next s := by
  rw [hostWrite_of_regAt hr, State.regWrite_readOnly h]

/-! ### The words that CTRL, STATUS and WCFG read as -/

/-- CTRL's two fields (10_state.md R22). -/
theorem Engine.ctrlWord_bits (e : Engine) : e.ctrlWord.getLsbD 0 = e.cie ∧ e.ctrlWord.getLsbD 1 = e.eie := by
  simp only [Engine.ctrlWord, BitVec.getLsbD_append]
  simp

/-- SRST and the reserved bits of CTRL read 0 (10_state.md R22). -/
theorem Engine.ctrlWord_reserved (e : Engine) {k : Nat} (h : 2 ≤ k) : e.ctrlWord.getLsbD k = false := by
  have h0 : ¬k < 1 := by omega
  have h1 : ¬k - 1 < 1 := by omega
  simp only [Engine.ctrlWord, BitVec.getLsbD_append, h0, h1]
  simp

/-- The reserved bits of STATUS read 0 (10_state.md R23). -/
theorem Engine.statusWord_reserved (e : Engine) {k : Nat} (h : 12 ≤ k) : e.statusWord.getLsbD k = false := by
  obtain ⟨j, rfl⟩ := Nat.exists_eq_add_of_le' h
  simp only [Engine.statusWord, BitVec.getLsbD_append]
  simp

/-- WCFG's two fields (10_state.md R29). -/
theorem Engine.wcfgWord_fields (e : Engine) :
    e.wcfgWord.extractLsb' 0 8 = e.wn ∧ e.wcfgWord.extractLsb' 8 8 = e.wp := by
  constructor
  all_goals
    ext k hk
    simp only [Engine.wcfgWord, BitVec.getElem_extractLsb', BitVec.getLsbD_append]
    simp [hk]

/-- The upper half of WCFG reads 0 (10_state.md R29). -/
theorem Engine.wcfgWord_reserved (e : Engine) {k : Nat} (h : 16 ≤ k) : e.wcfgWord.getLsbD k = false := by
  obtain ⟨j, rfl⟩ := Nat.exists_eq_add_of_le' h
  simp only [Engine.wcfgWord, BitVec.getLsbD_append]
  simp

theorem Engine.wcfgWord_upper (e : Engine) : e.wcfgWord >>> 16 = 0#32 := by
  ext k hk
  rw [BitVec.getElem_ushiftRight, e.wcfgWord_reserved (by omega), BitVec.getElem_zero]

/-! ### Which register write it is, and the bits of the written word that matter -/

theorem State.writeCtrl_reset {v : Word} (h : v.getLsbD 2 = true) (s : State) : s.writeCtrl v = s.resetEngine :=
  if_pos h

theorem State.writeCtrl_enables {v : Word} (h : v.getLsbD 2 = false) (s : State) :
    s.writeCtrl v = s.writeEnables v :=
  if_neg (Bool.eq_false_iff.mp h)

theorem State.issueCommand_busy {s : State} (h : s.busy = true) (v : Word) : s.issueCommand v = s.dropCommand :=
  if_pos h

theorem State.issueCommand_idle {s : State} (h : s.busy = false) (v : Word) :
    s.issueCommand v = s.acceptCommand v :=
  if_neg (Bool.eq_false_iff.mp h)

/-- Two words that agree under a mask agree at every bit of the mask. -/
theorem getLsbD_eq_of_and_eq {m v v' : Word} (h : v &&& m = v' &&& m) {k : Nat} (hk : m.getLsbD k = true) :
    v.getLsbD k = v'.getLsbD k := by
  simpa [hk] using congrArg (·.getLsbD k) h

/-- A CTRL write reads bits 0, 1 and 2 (10_state.md R22). -/
theorem State.writeCtrl_congr {v v' : Word} (h : v &&& 0x7#32 = v' &&& 0x7#32) (s : State) :
    s.writeCtrl v = s.writeCtrl v' := by
  simp only [State.writeCtrl, State.writeEnables, getLsbD_eq_of_and_eq h (k := 0) rfl,
    getLsbD_eq_of_and_eq h (k := 1) rfl, getLsbD_eq_of_and_eq h (k := 2) rfl]

/-- A STATUS write reads bits 1, 3, 5 and 6, all of them STATUS fields (10_state.md R24). -/
theorem State.clearStatus_congr {v v' : Word} (h : v &&& 0xFFF#32 = v' &&& 0xFFF#32) (s : State) :
    s.clearStatus v = s.clearStatus v' := by
  simp only [State.clearStatus, getLsbD_eq_of_and_eq h (k := 1) rfl, getLsbD_eq_of_and_eq h (k := 3) rfl,
    getLsbD_eq_of_and_eq h (k := 5) rfl, getLsbD_eq_of_and_eq h (k := 6) rfl]

/-! ### Completions -/

/-- No command writes the interrupt enables (10_state.md R22). -/
theorem Completion.enables_eq {l : Pending} {s t : State} {i : Instr} (h : Completion l s i t) :
    t.cie = s.cie ∧ t.eie = s.eie := by
  cases h <;> exact ⟨rfl, rfl⟩

/-- No command writes the operand registers (10_state.md R26). -/
theorem Completion.operands_eq {l : Pending} {s t : State} {i : Instr} (h : Completion l s i t) :
    t.opa = s.opa ∧ t.opb = s.opb ∧ t.opc = s.opc := by
  cases h <;> exact ⟨rfl, rfl, rfl⟩

/-- The completion of the pending command, legal or not, sets CC and keeps the enables. -/
theorem engineTurn_pending {s t : State} {l : Pending} (hb : s.busy = true) (hp : s.pend = some l)
    (h : engineTurn s = .next t) : t.cc = true ∧ t.cie = s.cie ∧ t.eie = s.eie := by
  obtain ⟨-, hidle⟩ | ⟨l', -, -, rfl | ⟨i, -, hc⟩⟩ := engineTurn_next h
  · exact absurd ⟨hb, by simp [hp]⟩ hidle
  · exact ⟨rfl, rfl, rfl⟩
  · exact ⟨hc.idle.1, hc.enables_eq⟩

/-- With a command pending, the engine's turn is that command's completion (20_memory.md R67). -/
theorem engineTurn_completeCommand {s : State} {l : Pending} (hb : s.busy = true) (hp : s.pend = some l) :
    engineTurn s = completeCommand l.cw s := by
  simp only [engineTurn, hb, hp]

/-- A word that does not decode completes as IllegalCommand (60_exceptions.md R206). -/
theorem completeCommand_illegal {cw : Word} (h : ¬∃ i, decode cw = .ok i) (s : State) :
    completeCommand cw s = .next (s.fail .illegalCommand) := by
  cases hd : decode cw with
  | ok i => exact absurd ⟨i, hd⟩ h
  | error e => simp only [completeCommand, hd]

/-- `exec_next` read backwards: what a completion can do, `exec` does, so `Completion` is exactly `exec`. -/
theorem Completion.exec_eq {l : Pending} {s t : State} {i : Instr} (hp : s.pend = some l)
    (h : Completion l s i t) : exec i s = .next t := by
  cases h
  case gnextInWalk ha => simp [exec, execGnext, hp, ha]
  case grstInWalk ha => simp [exec, execGrst, hp, ha]
  case gloadInWalk ha => simp [exec, execGload, hp, ha]
  case noWalk ha => simp [exec, execWstep, hp, ha]
  case badSkil hc => simp [exec, execSkil, hp, hc]
  case badDec hc => simp [exec, execDec, hp, hc]
  case badEnc hc => simp [exec, execEnc, hp, hc]
  case badWstart hc => simp [exec, execWstart, hp, hc]
  case nop => simp [exec, execNop, hp]
  case gray => simp [exec, execGray, hp]
  case ginv => simp [exec, execGinv, hp]
  case gnext ha => simp [exec, execGnext, hp, ha]
  case grst ha => simp [exec, execGrst, hp, ha]
  case gload ha => simp [exec, execGload, hp, ha]
  case skil hv => simp [exec, execSkil, hp, checkNP_eq_none.mpr hv]
  case dec hv => simp [exec, execDec, hp, checkNP_eq_none.mpr hv]
  case enc hv => simp [exec, execEnc, hp, checkNP_eq_none.mpr hv]
  case wstart hv => simp [exec, execWstart, hp, checkNP_eq_none.mpr hv]
  case wstep ha hm => simp [exec, execWstep, hp, ha, hm]
  case wlast ha hm => simp [exec, execWstep, hp, ha, hm]
  case wstop => simp [exec, execWstop, hp]

/-- The operand registers replaced, and nothing else. -/
def State.withOperands (a b c : Word) (s : State) : State := { s with opa := a, opb := b, opc := c }

/-- A completion works from the latch: with other operand registers it does the same and leaves them
(10_state.md R26, R30). -/
theorem Completion.withOperands {l : Pending} {s t : State} {i : Instr} (a b c : Word) (h : Completion l s i t) :
    Completion l (s.withOperands a b c) i (t.withOperands a b c) := by
  cases h
  case gnextInWalk ha => exact .gnextInWalk ha
  case grstInWalk ha => exact .grstInWalk ha
  case gloadInWalk ha => exact .gloadInWalk ha
  case noWalk ha => exact .noWalk ha
  case badSkil hc => exact .badSkil _ _ _ hc
  case badDec hc => exact .badDec _ _ _ hc
  case badEnc hc => exact .badEnc _ _ _ hc
  case badWstart hc => exact .badWstart _ _ _ hc
  case nop => exact .nop
  case gray => exact .gray
  case ginv => exact .ginv
  case gnext ha => exact .gnext ha
  case grst ha => exact .grst ha
  case gload ha => exact .gload ha
  case skil hv => exact .skil _ _ hv
  case dec hv => exact .dec _ _ hv
  case enc hv => exact .enc _ _ hv
  case wstart hv => exact .wstart _ _ hv
  case wstep ha hm => exact .wstep ha hm
  case wlast ha hm => exact .wlast ha hm
  case wstop => exact .wstop

/-- What a command does is the same whatever the operand registers hold at its completion (10_state.md R26). -/
theorem exec_withOperands {i : Instr} {s t : State} (a b c : Word) (h : exec i s = .next t) :
    exec i (s.withOperands a b c) = .next (t.withOperands a b c) := by
  obtain ⟨l, hp, hc⟩ := exec_next h
  exact (hc.withOperands a b c).exec_eq hp

end Sys2Proof.Machine
end

section
/-! The rules of the register window (10_state.md, section 2): CTRL, STATUS, CMD, the operands, the read-only
registers. -/

namespace Sys2Proof.Proofs

open Sys2Proof.Machine Sys2Proof.Safety

/-- Settles O31: the two sides of bit 2, the word CTRL reads as, and IRQ from the CC and the enables that a completion
leaves. -/
theorem ctrlRegister : Obligations.CtrlRegister := by
  refine ⟨fun s v h => ?_, fun s v h => ?_, fun s => ?_, fun s t l hb hp h => ?_, rfl, rfl⟩
  · exact (hostWrite_of_regAt (r := .ctrl) rfl v s).trans (congrArg _ (s.writeCtrl_reset h))
  · exact (hostWrite_of_regAt (r := .ctrl) rfl v s).trans (congrArg _ (s.writeCtrl_enables h))
  · obtain ⟨hcie, heie⟩ := s.ctrlWord_bits
    exact ⟨s.ctrlWord, hostRead_of_regAt (r := .ctrl) rfl s, hcie, heie, fun k => s.ctrlWord_reserved⟩
  · obtain ⟨hcc, hcie, heie⟩ := engineTurn_pending hb hp h
    exact ⟨fun hs => by simp [Engine.irq, hcc, hcie, hs], fun hs he => by simp [Engine.irq, hcc, heie, hs, he]⟩

/-- Settles O33: the write is `clearStatus`, whose `&&` with the negated bit is the statement's conditional. -/
theorem statusWriteClears : Obligations.StatusWriteClears := by
  intro s v
  have hclear (x b : Bool) : (x && !b) = if b then false else x := by cases b <;> simp
  rw [hostWrite_of_regAt (off := 0x08#6) (r := .status) rfl, State.regWrite, State.clearStatus]
  simp only [hclear]

/-- Settles O34: the two cases of BUSY; an illegal word, once accepted, completes by `completeCommand_illegal`. -/
theorem cmdRegister : Obligations.CmdRegister := by
  refine ⟨fun s v hb => ?_, fun s v hb => ?_, fun s => hostRead_of_regAt (r := .cmd) rfl s, fun s v hb hd => ?_, rfl⟩
  · exact (hostWrite_of_regAt (r := .cmd) rfl v s).trans (congrArg _ (State.issueCommand_busy hb v))
  · exact (hostWrite_of_regAt (r := .cmd) rfl v s).trans (congrArg _ (State.issueCommand_idle hb v))
  · calc runCommand v s = engineTurn (s.acceptCommand v) := congrArg engineTurn (State.issueCommand_idle hb v)
      _ = completeCommand v (s.acceptCommand v) :=
        engineTurn_completeCommand (l := ⟨v, s.opa, s.opb, s.opc⟩) (s.acceptCommand_busy v) (s.acceptCommand_pend v)
      _ = .next ((s.acceptCommand v).fail .illegalCommand) := completeCommand_illegal hd _
      _ = .next (failedWith 4#4 { s with cmd := v }) := rfl

/-- Settles O35: the last clause is `Completion.operands_eq` and `exec_withOperands`. -/
theorem operandRegisters : Obligations.OperandRegisters := by
  refine ⟨fun s v => ⟨?_, ?_, ?_⟩, fun s => ⟨?_, ?_, ?_⟩, ⟨rfl, rfl, rfl⟩, fun i s t a b c h => ?_⟩
  · exact hostWrite_of_regAt (r := .opa) rfl v s
  · exact hostWrite_of_regAt (r := .opb) rfl v s
  · exact hostWrite_of_regAt (r := .opc) rfl v s
  · exact hostRead_of_regAt (r := .opa) rfl s
  · exact hostRead_of_regAt (r := .opb) rfl s
  · exact hostRead_of_regAt (r := .opc) rfl s
  · obtain ⟨l, -, hc⟩ := exec_next h
    obtain ⟨ha, hb, hc'⟩ := hc.operands_eq
    exact ⟨ha, hb, hc', exec_withOperands a b c h⟩

/-- Settles O36, clause by clause: ignored writes, reserved offsets, reads, reserved bits, register values. -/
theorem readOnlyWindow : Obligations.ReadOnlyWindow := by
  refine ⟨fun s v off h => ?_, fun s off h => ?_, fun s t off width h => ?_, fun s v v' => ⟨fun h => ?_, fun h => ?_⟩,
    fun s k => ⟨s.ctrlWord_reserved, s.statusWord_reserved, s.wcfgWord_reserved⟩, fun s => ?_⟩
  · simp only [List.mem_cons, List.not_mem_nil, or_false] at h
    rcases h with rfl | rfl | rfl | rfl | rfl | rfl | rfl | rfl | rfl | rfl <;> exact hostWrite_readOnly rfl rfl v s
  · simp only [List.mem_cons, List.not_mem_nil, or_false] at h
    rcases h with rfl | rfl | rfl <;> exact hostRead_of_regAt (r := .reserved) rfl s
  · obtain ⟨-, r, -, rfl⟩ := hostRead_next h
    exact s.reply_toEngine _
  · rw [hostWrite_of_regAt (r := .ctrl) rfl, hostWrite_of_regAt (r := .ctrl) rfl, State.regWrite, State.regWrite,
      State.writeCtrl_congr h]
  · rw [hostWrite_of_regAt (r := .status) rfl, hostWrite_of_regAt (r := .status) rfl, State.regWrite, State.regWrite,
      State.clearStatus_congr h]
  · obtain ⟨hwn, hwp⟩ := s.wcfgWord_fields
    exact ⟨hostRead_of_regAt (r := .id) rfl s, hostRead_of_regAt (r := .res0) rfl s,
      hostRead_of_regAt (r := .res1) rfl s, hostRead_of_regAt (r := .res2) rfl s,
      hostRead_of_regAt (r := .res3) rfl s, hostRead_of_regAt (r := .gcnt) rfl s,
      s.wcfgWord, hostRead_of_regAt (r := .wcfg) rfl s, hwn, hwp, s.wcfgWord_upper⟩

end Sys2Proof.Proofs
end

section
/-! SUPPORT. Command words: their fields under the masks that rules write, the assembler's word as the OR of its fields,
which commands the decoder answers, and which opcodes carry no (n, p) (30_encoding.md, sections 1 to 5). -/

namespace Sys2Proof

/-! ### Fields -/

/-- Two words that agree under a mask have the same byte wherever the mask covers it whole. -/
theorem byte_congr_of_and_eq {m v v' : Word} (h : v &&& m = v' &&& m) {start : Nat}
    (hm : m.extractLsb' start 8 = BitVec.allOnes 8) : v.extractLsb' start 8 = v'.extractLsb' start 8 := by
  simpa only [BitVec.extractLsb'_and, hm, BitVec.and_allOnes] using congrArg (·.extractLsb' start 8) h

/-- Masking with 0xFF is reading OPC (30_encoding.md R81). -/
theorem and_lowByte (v : Word) : v &&& 0xFF#32 = (opcField v).setWidth 32 := by
  apply BitVec.eq_of_toNat_eq
  calc (v &&& 0xFF#32).toNat = v.toNat % 2 ^ 8 := Nat.and_two_pow_sub_one_eq_mod v.toNat 8
    _ = ((opcField v).setWidth 32).toNat := by
      simp only [opcField, BitVec.toNat_setWidth, BitVec.extractLsb'_toNat, Nat.shiftRight_zero]
      omega

/-- The bits from 24 up are RSV (30_encoding.md R81). -/
theorem ushiftRight_rsv (cw : Word) : cw >>> 24 = (rsvField cw).setWidth 32 := by
  rw [BitVec.ushiftRight_eq_extractLsb'_of_lt (by decide), BitVec.setWidth_eq_append (by decide)]
  rfl

/-- The low byte of a two's-complement word is the two's-complement byte (30_encoding.md R82). -/
theorem opcField_ofInt (n : Int) : opcField (BitVec.ofInt 32 n) = BitVec.ofInt 8 n := by
  apply BitVec.eq_of_toNat_eq
  simp only [opcField, BitVec.extractLsb'_toNat, BitVec.toNat_ofInt]
  omega

/-- A masked word on a list of words has its OPC among the opcodes of that list. -/
theorem opcField_mem_of_and_mem {cw : Word} {ws : List Word} (h : cw &&& 0xFF#32 ∈ ws) :
    opcField cw ∈ ws.map opcField := by
  have hmask : cw &&& 0xFF#32 &&& 0xFF#32 = cw &&& 0xFF#32 := by rw [BitVec.and_assoc, BitVec.and_self]
  have hcw : opcField (cw &&& 0xFF#32) = opcField cw := byte_congr_of_and_eq hmask (by decide)
  exact hcw ▸ List.mem_map_of_mem h

/-! ### The assembler -/

/-- Bytes side by side, the highest 0, are the OR of the three others in their places (30_encoding.md R81). -/
theorem append_fields_eq_or (p n o : Byte) :
    0#8 ++ p ++ n ++ o = o.setWidth 32 ||| n.setWidth 32 <<< 8 ||| p.setWidth 32 <<< 16 := by
  have happend := @BitVec.setWidth_append_append_append_eq_shiftLeft_setWidth_or 8 8 8 8 32 0#8 p n o
  rw [BitVec.setWidth_eq, BitVec.setWidth_zero, BitVec.zero_shiftLeft, BitVec.zero_or] at happend
  rw [happend, BitVec.or_comm, BitVec.or_comm (_ <<< _), ← BitVec.or_assoc]

/-- The assembler's word is the OR of its fields, n and p cut to a byte (30_encoding.md R92). -/
theorem encode_eq_or (i : Instr) :
    encode i = (opcodeOf i).setWidth 32 ||| ((BitVec.ofInt 32 (fieldsOf i).1 &&& 0xFF#32) <<< 8) |||
      ((BitVec.ofInt 32 (fieldsOf i).2 &&& 0xFF#32) <<< 16) := by
  rw [and_lowByte, and_lowByte, opcField_ofInt, opcField_ofInt, encode, append_fields_eq_or]

/-! ### The decoder -/

/-- The opcode of every command is one of the twelve (30_encoding.md R83). -/
theorem opcodeOf_mem (i : Instr) : (opcodeOf i).setWidth 32 ∈ [0x00#32, 0x01#32, 0x02#32, 0x03#32, 0x04#32, 0x05#32,
    0x10#32, 0x20#32, 0x21#32, 0x30#32, 0x31#32, 0x32#32] := by
  cases i <;> simp [opcodeOf]

/-- The decoder answers a command when RSV is 0 and the dispatch on OPC answers it (30_encoding.md R91). -/
theorem decode_eq_ok {cw : Word} {i : Instr} : decode cw = .ok i ↔
    rsvField cw = 0#8 ∧ decodeOpcode (opcField cw) (sext8 (ndimField cw)) (sext8 (precField cw)) = .ok i := by
  by_cases h : rsvField cw = 0#8 <;> simp [decode, h]

/-- The dispatch answers a command at that command's opcode only (30_encoding.md R83). -/
theorem eq_opcodeOf_of_decodeOpcode {o : Byte} {n p : Int} {i : Instr} (h : decodeOpcode o n p = .ok i) :
    o = opcodeOf i := by
  unfold decodeOpcode at h
  split at h <;> cases h <;> exact BitVec.eq_of_toNat_eq ‹_›

/-- A word that decodes has RSV = 0 and its command's opcode (30_encoding.md R83, R84). -/
theorem fields_of_decode {cw : Word} {i : Instr} (h : decode cw = .ok i) :
    cw >>> 24 = 0#32 ∧ cw &&& 0xFF#32 = (opcodeOf i).setWidth 32 := by
  obtain ⟨hrsv, hop⟩ := decode_eq_ok.mp h
  exact ⟨by rw [ushiftRight_rsv, hrsv]; rfl, by rw [and_lowByte, eq_opcodeOf_of_decodeOpcode hop]⟩

/-- The opcodes of the eight commands without (n, p) (30_encoding.md R86). -/
def noOperandOpcodes : List Byte := [0x00#8, 0x01#8, 0x02#8, 0x03#8, 0x04#8, 0x05#8, 0x31#8, 0x32#8]

/-- At the opcode of a command without (n, p), the dispatch ignores the operands (30_encoding.md R86). -/
theorem decodeOpcode_noOperands {o : Byte} (h : o ∈ noOperandOpcodes) (n p n' p' : Int) :
    decodeOpcode o n p = decodeOpcode o n' p' := by
  simp only [noOperandOpcodes, List.mem_cons, List.not_mem_nil, or_false] at h
  rcases h with rfl | rfl | rfl | rfl | rfl | rfl | rfl | rfl <;> rfl

/-- Words of one such opcode decode alike, whatever their NDIM and PREC (30_encoding.md R86). -/
theorem decode_congr_noOperands {cw cw' : Word} (hrsv : rsvField cw = rsvField cw') (hopc : opcField cw = opcField cw')
    (h : opcField cw ∈ noOperandOpcodes) : decode cw = decode cw' := by
  simp only [decode, ← hrsv, ← hopc]
  rw [decodeOpcode_noOperands h]

end Sys2Proof
end

section
/-! The rules of command words (30_encoding.md): the assembler, the ignored fields, the illegal words. -/

namespace Sys2Proof.Proofs

open Sys2Proof.Machine Sys2Proof.Safety

/-- Settles O27: both words have one RSV and one OPC, and the decoder reads no other field at these opcodes. -/
theorem ignoredFields : Obligations.IgnoredFields := by
  intro cw cw' h hmem
  have hopc : opcField cw ∈ noOperandOpcodes := opcField_mem_of_and_mem hmem
  have hd : decode cw = decode cw' :=
    decode_congr_noOperands (byte_congr_of_and_eq h (by decide)) (byte_congr_of_and_eq h (by decide)) hopc
  exact ⟨hd, fun s => by rw [completeCommand, completeCommand, hd]⟩

/-- Settles O24: the eight fixed words and the five examples are evaluated; the four others are `encode_eq_or`, which
holds beyond the range of the fields too. -/
theorem assemblerWords : Obligations.AssemblerWords := by
  refine ⟨by decide, fun n p _ _ _ _ mk h => ?_, by decide, by decide, by decide, by decide, by decide⟩
  simp only [List.mem_cons, List.not_mem_nil, or_false] at h
  rcases h with rfl | rfl | rfl | rfl <;> exact encode_eq_or _

/-- Settles O30: by `fields_of_decode` neither kind of word decodes, and the failure leaves the engine idle. -/
theorem illegalCommandFails : Obligations.IllegalCommandFails := by
  intro s l v hb hp hbad
  have hd : ¬∃ i, decode l.cw = .ok i := by
    rintro ⟨i, hi⟩
    obtain ⟨hrsv, hopc⟩ := fields_of_decode hi
    exact hbad.elim (· hrsv) (· (hopc ▸ opcodeOf_mem i))
  refine ⟨?_, State.issueCommand_idle rfl v⟩
  calc engineTurn s = completeCommand l.cw s := engineTurn_completeCommand hb hp
    _ = .next (s.fail .illegalCommand) := completeCommand_illegal hd s
    _ = .next (failedWith 4#4 s) := rfl

end Sys2Proof.Proofs
end

section
/-! SUPPORT. Which words select a command (30_encoding.md R83, R84), RUN of a command word in an idle engine
(30_encoding.md R93), and RUN of the Gray-code generator's commands outside a walk (40_gray.md R106-R108). -/

namespace Sys2Proof.Machine

open Sys2Proof.Safety

/-! ### Selection -/

/-- Where the dispatch answers `mk` of NDIM and PREC at an opcode, that opcode selects it: masking with 0xFF0000FF keeps
RSV and OPC, and a word whose RSV is not 0 does not decode. -/
theorem selectedBy_of_decodeOpcode {opc : Word} {mk : Byte → Byte → Instr} (hrsv : rsvField opc = 0#8)
    (hop : ∀ n p : Byte, decodeOpcode (opcField opc) (sext8 n) (sext8 p) = .ok (mk n p)) : SelectedBy opc mk := by
  constructor
  · intro cw h
    have hmask : cw &&& 0xFF0000FF#32 = opc &&& 0xFF0000FF#32 := by rw [← h, BitVec.and_assoc, BitVec.and_self]
    have hrsvcw : rsvField cw = rsvField opc := byte_congr_of_and_eq hmask (by decide)
    have hopcw : opcField cw = opcField opc := byte_congr_of_and_eq hmask (by decide)
    exact decode_eq_ok.mpr ⟨hrsvcw.trans hrsv, hopcw ▸ hop (ndimField cw) (precField cw)⟩
  · intro s l hb hp _ hne
    have hd : ¬∃ i, decode l.cw = .ok i := fun ⟨_, hi⟩ => hne (fields_of_decode hi).1
    exact (engineTurn_completeCommand hb hp).trans (completeCommand_illegal hd s)

/-! ### RUN -/

/-- RUN of a word that decodes to `i`, in an idle engine, answers what `i` does with the operands at acceptance. -/
theorem runCommand_completion {s t : State} {w : Word} {i : Instr} (hb : s.busy = false) (hd : decode w = .ok i)
    (hc : Completion ⟨w, s.opa, s.opb, s.opc⟩ (s.acceptCommand w) i t) : runCommand w s = .next t := by
  have hp := s.acceptCommand_pend w
  calc runCommand w s = engineTurn (s.acceptCommand w) := congrArg engineTurn (State.issueCommand_idle hb w)
    _ = exec i (s.acceptCommand w) := engineTurn_exec (s.acceptCommand_busy w) hp hd
    _ = .next t := hc.exec_eq hp

/-! ### The generator -/

/-- The engine is idle, no walk is active, and the generator's index is `i`. -/
structure GeneratorAt (i : Word) (s : State) : Prop where
  busy : s.busy = false
  active : s.active = false
  gcnt : s.gcnt = i

/-- RUN GRST puts the generator at 0 (40_gray.md R107). -/
theorem GeneratorAt.run_grst {i : Word} {s : State} (h : GeneratorAt i s) :
    ∃ t, runCommand 0x00000004#32 s = .next t ∧ GeneratorAt 0#32 t :=
  ⟨_, runCommand_completion h.busy rfl (.grst h.active), rfl, h.active, rfl⟩

/-- RUN GLOAD puts the generator at OPA (40_gray.md R108). -/
theorem GeneratorAt.run_gload {i : Word} {s : State} (h : GeneratorAt i s) :
    ∃ t, runCommand 0x00000005#32 s = .next t ∧ GeneratorAt s.opa t :=
  ⟨_, runCommand_completion h.busy rfl (.gload h.active), rfl, h.active, rfl⟩

/-- RUN GNEXT gives the Gray code of the index and the index, and moves on by one; WRAP records the step from the last
index (40_gray.md R106). -/
theorem GeneratorAt.run_gnext {i : Word} {s : State} (h : GeneratorAt i s) :
    ∃ t, runCommand 0x00000003#32 s = .next t ∧ GeneratorAt (i + 1#32) t ∧ t.res0 = gray i ∧ t.res1 = i ∧
      t.err = false ∧ t.wrap = (s.wrap || i == 0xFFFFFFFF#32) := by
  obtain ⟨hb, ha, rfl⟩ := h
  exact ⟨_, runCommand_completion hb rfl (.gnext ha), ⟨rfl, ha, rfl⟩, rfl, rfl, rfl, rfl⟩

/-- The step from 0xFFFFFFFF goes back to index 0 and leaves WRAP set (40_gray.md R106). -/
theorem GeneratorAt.run_gnext_wraps {s : State} (h : GeneratorAt 0xFFFFFFFF#32 s) :
    ∃ t, runCommand 0x00000003#32 s = .next t ∧ t.err = false ∧ t.res0 = 0x80000000#32 ∧ t.res1 = 0xFFFFFFFF#32 ∧
      t.gcnt = 0#32 ∧ t.wrap = true := by
  obtain ⟨t, hrun, ht, hr0, hr1, herr, hwrap⟩ := h.run_gnext
  exact ⟨t, hrun, herr, hr0, hr1, ht.gcnt, hwrap.trans (Bool.or_true _)⟩

end Sys2Proof.Machine
end

section
/-! The rules of the Gray-code generator's commands (40_gray.md R104-R108): each is the encoding clause, then `exec` as
the matching case of `Completion`, then the examples. -/

namespace Sys2Proof.Proofs

open Sys2Proof.Machine Sys2Proof.Safety

/-- Settles O2: XOR with the shifted word leaves bit 31, as the shift brings a 0 there. -/
theorem grayRule : Obligations.GrayRule := by
  refine ⟨selectedBy_of_decodeOpcode rfl fun _ _ => rfl, fun s l hp => Completion.gray.exec_eq hp, by decide, by decide,
    by decide, fun i => ?_, fun s hb hopa => ?_⟩
  · simp [gray]
  · exact ⟨_, runCommand_completion hb rfl .gray, congrArg gray hopa⟩

/-- Settles O3: the loop of `ginv` is evaluated on the corner values and on the example. -/
theorem ginvRule : Obligations.GinvRule := by
  refine ⟨selectedBy_of_decodeOpcode rfl fun _ _ => rfl, fun s l hp => Completion.ginv.exec_eq hp, by decide, by decide,
    by decide, by decide, fun s hb hopa => ?_⟩
  have hex : ginv 0x0000003B#32 = 0x0000002D#32 := by decide
  exact ⟨_, runCommand_completion hb rfl .ginv, (congrArg ginv hopa).trans hex⟩

/-- Settles O4: the index moves on modulo 2^32, and the example is four uses of `GeneratorAt.run_gnext` from index 0. -/
theorem gnextRule : Obligations.GnextRule := by
  refine ⟨selectedBy_of_decodeOpcode rfl fun _ _ => rfl, fun s l hp ha => (Completion.gnextInWalk ha).exec_eq hp,
    fun s l hp ha => ?_, fun s hb ha hg => GeneratorAt.run_gnext_wraps ⟨hb, ha, hg⟩, fun s hb ha => ?_⟩
  · have hsucc : BitVec.ofNat 32 ((s.gcnt.toNat + 1) % 2 ^ 32) = s.gcnt + 1#32 := by
      apply BitVec.eq_of_toNat_eq
      simp
    rw [hsucc]
    exact (Completion.gnext ha).exec_eq hp
  · obtain ⟨t0, hrun0, h0⟩ := GeneratorAt.run_grst ⟨hb, ha, rfl⟩
    obtain ⟨t1, hrun1, h1, hcode1, hindex1, -⟩ := h0.run_gnext
    obtain ⟨t2, hrun2, h2, hcode2, hindex2, -⟩ := h1.run_gnext
    obtain ⟨t3, hrun3, h3, hcode3, hindex3, -⟩ := h2.run_gnext
    obtain ⟨t4, hrun4, h4, hcode4, hindex4, -⟩ := h3.run_gnext
    exact ⟨t0, t1, t2, t3, t4, hrun0, hrun1, hcode1, hindex1, hrun2, hcode2, hindex2, hrun3, hcode3, hindex3, hrun4,
      hcode4, hindex4, h4.gcnt⟩

/-- Settles O5: where GCNT is 0 already, writing 0 to it changes nothing. -/
theorem grstRule : Obligations.GrstRule := by
  have hgrst (s : State) (l : Pending) (hp : s.pend = some l) (ha : s.active = false) :
      exec .grst s = .next (succeeded { s with gcnt := 0#32 }) := (Completion.grst ha).exec_eq hp
  refine ⟨selectedBy_of_decodeOpcode rfl fun _ _ => rfl, fun s l hp ha => (Completion.grstInWalk ha).exec_eq hp, hgrst,
    fun s l hp ha hg => ?_, fun s hb ha hg => ?_⟩
  · rw [hgrst s l hp ha, ← hg]
  · obtain ⟨t, hrun, ht⟩ := GeneratorAt.run_grst ⟨hb, ha, hg⟩
    exact ⟨t, hrun, ht.gcnt⟩

/-- Settles O6: the example loads the last index, and `GeneratorAt.run_gnext_wraps` is the GNEXT from there. -/
theorem gloadRule : Obligations.GloadRule := by
  refine ⟨selectedBy_of_decodeOpcode rfl fun _ _ => rfl, fun s l hp ha => (Completion.gloadInWalk ha).exec_eq hp,
    fun s l hp ha => (Completion.gload ha).exec_eq hp, fun s hb ha hopa => ?_⟩
  obtain ⟨t, hrun, ht⟩ := GeneratorAt.run_gload ⟨hb, ha, rfl⟩
  obtain ⟨u, hrun', -, hu⟩ := GeneratorAt.run_gnext_wraps (hopa ▸ ht)
  exact ⟨t, u, hrun, hrun', hu⟩

end Sys2Proof.Proofs
end

section
/-! SUPPORT. What validation reports on an invalid pair (60_exceptions.md R204), and what the lane operations and one
step of the Skilling transform do to the bit at each lane position (41_skilling.md R131). -/

namespace Sys2Proof.Machine

open Sys2Proof.Safety

/-! ### Validation -/

theorem checkNP_dimension {n : Int} (h2 : n ≠ 2) (h3 : n ≠ 3) (unit : CheckUnit) (p : Int) :
    checkNP unit n p = some .invalidDimension :=
  if_pos (not_or_intro h2 h3)

theorem checkNP_negative {n p : Int} (hn : n = 2 ∨ n = 3) (hp : p < 0) (unit : CheckUnit) :
    checkNP unit n p = some .invalidPrecision := by
  simp only [checkNP, hn, hp, not_true_eq_false, if_true, if_false]

/-- Beyond 32 bits, the unit decides what is reported (60_exceptions.md R204). -/
theorem checkNP_tooWide {n p : Int} (hn : n = 2 ∨ n = 3) (hp : 0 ≤ p) (hnp : 32 < n * p) (unit : CheckUnit) :
    checkNP unit n p = some (if unit = .skilling then .arithmeticOverflow else .invalidPrecision) := by
  have hnonneg : ¬p < 0 := not_lt.mpr hp
  have hwide : n * p > 32 := hnp
  simp only [checkNP, hn, hnonneg, hwide, not_true_eq_false, if_true, if_false]
  cases unit <;> rfl

/-- A pair that is valid as naturals passes validation as integers (00_scope.md R6). -/
theorem validPairInt_natCast {n p : Nat} (h : ValidPair n p) : ValidPairInt n p := by
  obtain ⟨hn, hnp⟩ := h
  exact ⟨by exact_mod_cast hn, Int.natCast_nonneg p, by exact_mod_cast hnp⟩

/-! ### Lanes -/

theorem axis_lt {n : Nat} (hn : 0 < n) (k : Nat) : axis n k < n := by
  unfold axis
  omega

/-- `pos_inj` with its converse. -/
theorem pos_eq_pos_iff {n L L' a a' : Nat} (ha : a < n) (ha' : a' < n) :
    pos n L a = pos n L' a' ↔ L = L' ∧ a = a' :=
  ⟨pos_inj ha ha', fun ⟨hL, haa⟩ => by rw [hL, haa]⟩

/-- Words that agree at every lane position are equal. -/
theorem eq_of_lanes {n : Nat} (hn : 0 < n) {u v : Word}
    (h : ∀ L a, a < n → u.getLsbD (pos n L a) = v.getLsbD (pos n L a)) : u = v := by
  apply BitVec.eq_of_getLsbD_eq
  intro k _
  rw [← pos_axis hn (k := k)]
  exact h _ _ (axis_lt hn k)

theorem invertLane_zero (n : Nat) (u : Word) : invertLane n 0 u = u := rfl

theorem invertLane_succ (n q : Nat) (u : Word) :
    invertLane n (q + 1) u = invertBit (invertLane n q u) (pos n q 0) := by
  simp only [invertLane, List.range_succ, List.foldl_append, List.foldl_cons, List.foldl_nil]

theorem swapLanes_zero (n b : Nat) (u : Word) : swapLanes n 0 b u = u := rfl

theorem swapLanes_succ (n q b : Nat) (u : Word) :
    swapLanes n (q + 1) b u = swapBits (swapLanes n q b u) (pos n q 0) (pos n q b) := by
  simp only [swapLanes, List.range_succ, List.foldl_append, List.foldl_cons, List.foldl_nil]

/-- Inverting the axis-0 lane below level `q` inverts exactly the axis-0 bits of those levels. -/
theorem invertLane_getLsbD_pos {n q a : Nat} (ha : a < n) (hq : n * q ≤ 32) (u : Word) (L : Nat) :
    (invertLane n q u).getLsbD (pos n L a) = (u.getLsbD (pos n L a) ^^ decide (L < q ∧ a = 0)) := by
  induction q with
  | zero => simp [invertLane_zero]
  | succ q ih =>
    have hn : 0 < n := Nat.zero_lt_of_lt ha
    have hpos : pos n q 0 < 32 := (pos_lt hn (Nat.lt_succ_self q)).trans_le hq
    have hflip : (decide (pos n L a < 32) && decide (pos n L a = pos n q 0)) = decide (L = q ∧ a = 0) := by
      rw [← Bool.decide_and, decide_eq_decide, ← pos_eq_pos_iff ha hn]
      exact ⟨And.right, fun h => ⟨h ▸ hpos, h⟩⟩
    rw [invertLane_succ, invertBit_getLsbD, ih ((Nat.mul_le_mul_left n q.le_succ).trans hq), hflip, Bool.xor_assoc]
    congr 1
    by_cases hL : L = q
    · simp [hL]
    · simp [hL, show L < q + 1 ↔ L < q by omega]

/-- Exchanging the axis-0 lane with the lane of axis `b` below level `q`: below `q` the two axes change places, and
every other bit stays. -/
theorem swapLanes_getLsbD_pos {n q b a : Nat} (hb : b < n) (ha : a < n) (hq : n * q ≤ 32) (u : Word) (L : Nat) :
    (swapLanes n q b u).getLsbD (pos n L a) = u.getLsbD (pos n L (if L < q then Equiv.swap 0 b a else a)) := by
  induction q generalizing L a with
  | zero => simp [swapLanes_zero]
  | succ q ih =>
    have hn : 0 < n := Nat.zero_lt_of_lt ha
    have hpos {c : Nat} (hc : c < n) : pos n q c < 32 := (pos_lt hc (Nat.lt_succ_self q)).trans_le hq
    have hle : n * q ≤ 32 := (Nat.mul_le_mul_left n q.le_succ).trans hq
    rw [swapLanes_succ, swapBits_getLsbD _ (hpos hn) (hpos hb), ih hb hle, ih hn hle, ih ha hle]
    simp only [pos_eq_pos_iff ha hn, pos_eq_pos_iff ha hb]
    by_cases hL : L = q
    · subst hL
      simp only [Nat.lt_irrefl, Nat.lt_succ_self, true_and, if_false, if_true, Equiv.swap_apply_def]
      split_ifs <;> rfl
    · simp [hL, show L < q + 1 ↔ L < q by omega]

/-! ### The transform -/

/-- Step `r` keeps every bit at its own level or above. -/
theorem skillingStep_getLsbD_pos_high {n r L a : Nat} (ha : a < n) (hr : r < 32) (hL : r / n ≤ L) (u : Word) :
    (skillingStep n u r).getLsbD (pos n L a) = u.getLsbD (pos n L a) := by
  have hq : n * (r / n) ≤ 32 := (Nat.mul_div_le r n).trans hr.le
  have hL' : ¬L < r / n := not_lt.mpr hL
  unfold skillingStep
  split
  · simp [invertLane_getLsbD_pos ha hq, hL']
  · rw [swapLanes_getLsbD_pos (axis_lt (Nat.zero_lt_of_lt ha) r) ha hq, if_neg hL']

/-- A 1 bit at `r` inverts the axis-0 bit of a level below (41_skilling.md R131). -/
theorem skillingStep_getLsbD_pos_one {n r L a : Nat} {u : Word} (ha : a < n) (hr : r < 32) (hL : L < r / n)
    (hbit : u.getLsbD r = true) :
    (skillingStep n u r).getLsbD (pos n L a) = (u.getLsbD (pos n L a) ^^ decide (a = 0)) := by
  rw [skillingStep, if_pos hbit, invertLane_getLsbD_pos ha ((Nat.mul_div_le r n).trans hr.le)]
  simp only [hL, true_and]

/-- A 0 bit at `r` exchanges axis 0 and the axis of `r` in a level below (41_skilling.md R131). -/
theorem skillingStep_getLsbD_pos_zero {n r L a : Nat} {u : Word} (ha : a < n) (hr : r < 32) (hL : L < r / n)
    (hbit : u.getLsbD r = false) :
    (skillingStep n u r).getLsbD (pos n L a) = u.getLsbD (pos n L (Equiv.swap 0 (axis n r) a)) := by
  rw [skillingStep, if_neg (Bool.eq_false_iff.mp hbit),
    swapLanes_getLsbD_pos (axis_lt (Nat.zero_lt_of_lt ha) r) ha ((Nat.mul_div_le r n).trans hr.le), if_pos hL]

/-- With at most one level there is no step to take (41_skilling.md R131). -/
theorem skilling_of_le_one {p : Nat} (hp : p ≤ 1) (v : Word) (n : Nat) : skilling v n p = v := by
  have hsteps : n * p - n = 0 := Nat.sub_eq_zero_of_le ((Nat.mul_le_mul_left n hp).trans_eq n.mul_one)
  rw [skilling, hsteps, List.range'_zero, List.foldl_nil]

/-- A step below a lone 1 bit exchanges 0 bits only. -/
theorem skillingStep_bit_of_lt {n r k : Nat} (hn : 0 < n) (hrk : r < k) (hk : k < 32) :
    skillingStep n (bit k) r = bit k := by
  refine eq_of_lanes hn fun L a ha => ?_
  have hr : r < 32 := hrk.trans hk
  by_cases hL : L < r / n
  · have hlow {c : Nat} (hc : c < n) : pos n L c ≠ k :=
      ((pos_lt hc hL).trans_le ((Nat.mul_div_le r n).trans hrk.le)).ne
    have hbit : (bit k).getLsbD r = false := by simp [hrk.ne]
    have hswap : Equiv.swap 0 (axis n r) a < n := by
      rw [Equiv.swap_apply_def]
      split_ifs
      exacts [axis_lt hn r, hn, ha]
    rw [skillingStep_getLsbD_pos_zero ha hr hL hbit]
    simp [hlow ha, hlow hswap]
  · exact skillingStep_getLsbD_pos_high ha hr (not_lt.mp hL) _

/-- Where the top bit alone is set, only the last step changes the word: it inverts the axis-0 bit of every level below
the top. -/
theorem skilling_topBit : skilling (bit 31) 2 16 = 0xAAAAAAAA#32 := by
  have hbelow : (List.range' 2 29).foldl (skillingStep 2) (bit 31) = bit 31 :=
    List.foldlRecOn (motive := (· = bit 31)) _ _ rfl fun u hu r hr => by
      have hr' := (List.mem_range'_1.mp hr).2
      rw [hu, skillingStep_bit_of_lt (by decide) hr' (by decide)]
  calc skilling (bit 31) 2 16
      = skillingStep 2 ((List.range' 2 29).foldl (skillingStep 2) (bit 31)) 31 := by
        rw [skilling, show 2 * 16 - 2 = 29 + 1 from rfl, List.range'_1_concat, List.foldl_concat]
    _ = skillingStep 2 (bit 31) 31 := by rw [hbelow]
    _ = 0xAAAAAAAA#32 := by decide

end Sys2Proof.Machine
end

section
/-! The rules of the Skilling transform (41_skilling.md R131, R136). -/

namespace Sys2Proof.Proofs

open Sys2Proof.Machine Sys2Proof.Safety

/-- Settles O15: by the level against the step's own, then by the control bit, then by the axis. -/
theorem skillingStepLanes : Obligations.SkillingStepLanes := by
  refine ⟨fun v n p => rfl, fun u n r L a _ _ hr ha _ => ?_⟩
  split_ifs with hL hbit ha0 ha0 hax
  · exact skillingStep_getLsbD_pos_high ha hr hL u
  · rw [skillingStep_getLsbD_pos_one ha hr (not_le.mp hL) hbit]
    simp [ha0]
  · rw [skillingStep_getLsbD_pos_one ha hr (not_le.mp hL) hbit]
    simp [ha0]
  all_goals rw [skillingStep_getLsbD_pos_zero ha hr (not_le.mp hL) (Bool.eq_false_iff.mpr hbit)]
  · rw [ha0, Equiv.swap_apply_left, axis]
  · rw [hax, axis, Equiv.swap_apply_right]
  · rw [axis, Equiv.swap_apply_of_ne_of_ne ha0 hax]

/-- Settles O7: `checkNP` decides between the failures and `Completion.skil`; p = 0 and p = 1 leave no step to take. -/
theorem skilRule : Obligations.SkilRule := by
  refine ⟨selectedBy_of_decodeOpcode rfl fun _ _ => rfl, fun s l n p hl h2 h3 => ?_, fun s l n p hl hn hp => ?_,
    fun s l n p hl hn hp hnp => ?_, fun s l n p hl hv => ?_, fun a n _ => ?_, fun a n _ => ?_, by decide, skilling_topBit,
    fun a => ⟨?_, rfl⟩, fun s hb hopa => ?_⟩
  · exact (Completion.badSkil n p _ (checkNP_dimension h2 h3 .skilling p)).exec_eq hl
  · exact (Completion.badSkil n p _ (checkNP_negative hn hp .skilling)).exec_eq hl
  · exact (Completion.badSkil n p _ (checkNP_tooWide hn hp hnp .skilling)).exec_eq hl
  · exact (Completion.skil n p (validPairInt_natCast hv)).exec_eq hl
  · rw [skilling_of_le_one zero_le_one]
    exact BitVec.and_zero
  · rw [skilling_of_le_one le_rfl, Nat.mul_one]
  · exact BitVec.and_allOnes
  · have hex : skilling (maskIndex 0x000000CD#32 2 4) 2 4 = 0x000000CE#32 := by decide
    exact ⟨_, runCommand_completion hb rfl (.skil 2 4 (by decide)),
      (congrArg (fun a => skilling (maskIndex a 2 4) 2 4) hopa).trans hex⟩

end Sys2Proof.Proofs
end

section
/-! SUPPORT. What the codec's two loops leave at each bit (42_codec.md R160, R162), the bound on the index, and
what validation outside the Skilling unit reports on a bad precision (60_exceptions.md R204). -/

namespace Sys2Proof.Machine

open Sys2Proof.Safety

/-! ### Sizes and positions -/

theorem validPair_dimension_pos {n p : Nat} (h : ValidPair n p) : 0 < n := by
  obtain ⟨hn, -⟩ := h
  omega

/-- A coordinate of a valid pair fits in a word. -/
theorem validPair_precision_le {n p : Nat} (h : ValidPair n p) : p ≤ 32 :=
  (Nat.le_mul_of_pos_left p (validPair_dimension_pos h)).trans h.2

/-- The lane position of axis `a` in the `j`-th level from the top, counted from the layout's top bit
(42_codec.md R160). -/
theorem pos_fromTop {n p j a : Nat} (ha : a < n) (hj : j < p) : pos n (p - 1 - j) a = n * p - 1 - a - j * n := by
  obtain ⟨k, rfl⟩ := Nat.exists_eq_add_of_lt hj
  have hlayout : n * (j + k + 1) = j * n + k * n + n := by ring
  rw [hlayout, show j + k + 1 - 1 - j = k by omega, pos]
  omega

/-! ### The decoder's loop -/

theorem decodeAxis_zero (v : Word) (n a : Nat) : decodeAxis v n 0 a = 0#32 := rfl

theorem decodeAxis_succ (v : Word) (n p a : Nat) :
    decodeAxis v n (p + 1) a = orBit (decodeAxis v n p a) p (v.getLsbD (pos n p a)) := by
  simp only [decodeAxis, List.range_succ, List.foldl_append, List.foldl_cons, List.foldl_nil]

/-- Coordinate `a` has the bits of its lane below level `p`, and no others (42_codec.md R160). -/
theorem decodeAxis_getLsbD {p : Nat} (hp : p ≤ 32) (v : Word) (n a L : Nat) :
    (decodeAxis v n p a).getLsbD L = (decide (L < p) && v.getLsbD (pos n L a)) := by
  induction p with
  | zero => simp [decodeAxis_zero]
  | succ p ih =>
    rw [decodeAxis_succ, orBit_getLsbD, ih (by omega)]
    by_cases hL : L = p
    · subst hL
      simp [show L < 32 by omega]
    · simp [hL, show L < p + 1 ↔ L < p by omega]

/-! ### The encoder's loop -/

theorem encodeAxis_zero (n a : Nat) (c v : Word) : encodeAxis n 0 a c v = v := rfl

theorem encodeAxis_succ (n p a : Nat) (c v : Word) :
    encodeAxis n (p + 1) a c v = orBit (encodeAxis n p a c v) (pos n p a) (c.getLsbD p) := by
  simp only [encodeAxis, List.range_succ, List.foldl_append, List.foldl_cons, List.foldl_nil]

/-- Putting coordinate `b` in adds its bits to the lane of axis `b` below level `p`, and to no other bit
(42_codec.md R162). -/
theorem encodeAxis_getLsbD_pos {n p a b : Nat} (ha : a < n) (hb : b < n) (hp : n * p ≤ 32) (c v : Word) (L : Nat) :
    (encodeAxis n p b c v).getLsbD (pos n L a) =
      (v.getLsbD (pos n L a) || (decide (L < p ∧ a = b) && c.getLsbD L)) := by
  induction p with
  | zero => simp [encodeAxis_zero]
  | succ p ih =>
    have hpos : pos n p b < 32 := (pos_lt hb (Nat.lt_succ_self p)).trans_le hp
    rw [encodeAxis_succ, orBit_getLsbD, ih ((Nat.mul_le_mul_left n p.le_succ).trans hp), Bool.or_assoc]
    congr 1
    simp only [pos_eq_pos_iff ha hb]
    by_cases hL : L = p
    · subst hL
      by_cases hab : a = b
      · subst hab
        simp [hpos]
      · simp [hab]
    · simp [hL, show L < p + 1 ↔ L < p by omega]

/-- The index has, at the lane of each axis below level `p`, that axis's coordinate, and no other bit
(42_codec.md R162). -/
theorem encodeCoords_getLsbD_pos {n p a : Nat} (h : ValidPair n p) (ha : a < n) (c0 c1 c2 : Word) (L : Nat) :
    (encodeCoords c0 c1 c2 n p).getLsbD (pos n L a) =
      (decide (L < p) && (if a = 0 then c0 else if a = 1 then c1 else c2).getLsbD L) := by
  obtain ⟨hn, hnp⟩ := h
  have h01 : (encodeAxis n p 1 c1 (encodeAxis n p 0 c0 0#32)).getLsbD (pos n L a) =
      ((decide (L < p ∧ a = 0) && c0.getLsbD L) || (decide (L < p ∧ a = 1) && c1.getLsbD L)) := by
    rw [encodeAxis_getLsbD_pos ha (by omega) hnp, encodeAxis_getLsbD_pos ha (by omega) hnp, BitVec.getLsbD_zero,
      Bool.false_or]
  rcases hn with rfl | rfl
  · rw [encodeCoords, if_neg (by decide), h01]
    obtain rfl | rfl : a = 0 ∨ a = 1 := by omega
    all_goals simp
  · rw [encodeCoords, if_pos rfl, encodeAxis_getLsbD_pos ha (by decide) hnp, h01]
    obtain rfl | rfl | rfl : a = 0 ∨ a = 1 ∨ a = 2 := by omega
    all_goals simp

/-- For n = 2 the third coordinate is not read (42_codec.md R165). -/
theorem encodeCoords_two_congr (c0 c1 c2 c2' : Word) (p : Nat) :
    encodeCoords c0 c1 c2 2 p = encodeCoords c0 c1 c2' 2 p := rfl

/-- The index of a valid pair is below 2^N (42_codec.md R162). -/
theorem encodeCoords_toNat_lt {n p : Nat} (h : ValidPair n p) (c0 c1 c2 : Word) :
    (encodeCoords c0 c1 c2 n p).toNat < 2 ^ (n * p) := by
  have hn := validPair_dimension_pos h
  refine Nat.lt_pow_two_of_testBit _ fun k hk => ?_
  have hlevel : ¬k / n < p := not_lt.mpr ((Nat.le_div_iff_mul_le hn).mpr ((p.mul_comm n).trans_le hk))
  rw [BitVec.testBit_toNat, ← pos_axis hn (k := k), encodeCoords_getLsbD_pos h (axis_lt hn k)]
  simp [hlevel]

/-! ### Validation -/

/-- Outside the Skilling unit every bad precision is InvalidPrecision (60_exceptions.md R204). -/
theorem checkNP_other_precision {n p : Int} (hn : n = 2 ∨ n = 3) (h : p < 0 ∨ 32 < n * p) :
    checkNP .other n p = some .invalidPrecision := by
  by_cases hp : p < 0
  · exact checkNP_negative hn hp .other
  · exact checkNP_tooWide hn (not_lt.mp hp) (h.resolve_left hp) .other

end Sys2Proof.Machine
end

section
/-! The rules of the coordinate codec (42_codec.md R160, R162, R164, R165). -/

namespace Sys2Proof.Proofs

open Sys2Proof.Machine Sys2Proof.Safety

/-- Settles O19: all three clauses read `decodeAxis_getLsbD`, the second at the position `pos_fromTop`. -/
theorem decodeLanes : Obligations.DecodeLanes := by
  intro v n p a h ha
  have hbits := decodeAxis_getLsbD (validPair_precision_le h) v n a
  refine ⟨fun L hL => ?_, fun j hj => ?_, Nat.lt_pow_two_of_testBit _ fun i hi => ?_⟩
  · rw [hbits, decide_eq_true hL, Bool.true_and, pos]
  · rw [hbits, decide_eq_true (by omega), Bool.true_and, pos_fromTop ha hj]
  · rw [BitVec.testBit_toNat, hbits, decide_eq_false (not_lt.mpr hi), Bool.false_and]

/-- Settles O20: `encodeCoords_getLsbD_pos` at axis 0, 1 and, for n = 3, 2. -/
theorem encodeLanes : Obligations.EncodeLanes := by
  intro c0 c1 c2 n p h
  have hn : 2 ≤ n := by omega
  have hbits {a : Nat} (ha : a < n) := encodeCoords_getLsbD_pos h ha c0 c1 c2
  refine ⟨encodeCoords_toNat_lt h c0 c1 c2, fun L hL => ⟨?_, ?_, ?_⟩⟩
  · simpa [hL, pos] using hbits (a := 0) (by omega) L
  · simpa [hL, pos, Nat.sub_sub] using hbits (a := 1) (by omega) L
  · rintro rfl
    simpa [hL, pos] using hbits (a := 2) (by omega) L

/-- Settles O8: `checkNP` decides between the failures and `Completion.dec`; the corner values and the example are
evaluated. -/
theorem decRule : Obligations.DecRule := by
  refine ⟨selectedBy_of_decodeOpcode rfl fun _ _ => rfl, fun s l n p hl h2 h3 => ?_, fun s l n p hl hn hp => ?_,
    fun s l n p hl hv => ?_, fun a n ax _ => decodeAxis_zero _ n ax, by decide, by decide, by decide, by decide,
    by decide, by decide, by decide, fun s hb hopa => ?_⟩
  · exact (Completion.badDec n p _ (checkNP_dimension h2 h3 .other p)).exec_eq hl
  · exact (Completion.badDec n p _ (checkNP_other_precision hn hp)).exec_eq hl
  · exact (Completion.dec n p (validPairInt_natCast hv)).exec_eq hl
  · have hx : decodeAxis (maskIndex 0x000000CE#32 2 4) 2 4 0 = 11#32 := by decide
    have hy : decodeAxis (maskIndex 0x000000CE#32 2 4) 2 4 1 = 10#32 := by decide
    exact ⟨_, runCommand_completion hb rfl (.dec 2 4 (by decide)),
      (congrArg (fun a => decodeAxis (maskIndex a 2 4) 2 4 0) hopa).trans hx,
      (congrArg (fun a => decodeAxis (maskIndex a 2 4) 2 4 1) hopa).trans hy, rfl, rfl⟩

/-- Settles O9: `checkNP` decides between the failures and `Completion.enc`; the corner values and the example are
evaluated. -/
theorem encRule : Obligations.EncRule := by
  refine ⟨selectedBy_of_decodeOpcode rfl fun _ _ => rfl, fun s l n p hl h2 h3 => ?_, fun s l n p hl hn hp => ?_,
    fun s l n p hl hv => ?_, fun a b c n hn => ?_, encodeCoords_two_congr, by decide, by decide,
    fun s hb hopa hopb => ?_⟩
  · exact (Completion.badEnc n p _ (checkNP_dimension h2 h3 .other p)).exec_eq hl
  · exact (Completion.badEnc n p _ (checkNP_other_precision hn hp)).exec_eq hl
  · exact (Completion.enc n p (validPairInt_natCast hv)).exec_eq hl
  · rcases hn with rfl | rfl <;> rfl
  · have hex : encodeCoords (maskCoord 2#32 2) (maskCoord 3#32 2) (maskCoord s.opc 2) 2 2 = 0x0000000D#32 :=
      (encodeCoords_two_congr _ _ _ 0#32 2).trans (by decide)
    exact ⟨_, runCommand_completion hb rfl (.enc 2 2 (by decide)),
      (congrArg₂ (fun a b => encodeCoords (maskCoord a 2) (maskCoord b 2) (maskCoord s.opc 2) 2 2) hopa hopb).trans hex⟩

end Sys2Proof.Proofs
end

section
/-! SUPPORT. The STATUS word that a success leaves after a failure, RUN of a failing WSTART, and the walk as a sequence
of RUNs: where WSTART leaves the engine, what WSTEP shows of a vertex and where it goes on, and where WSTOP leaves it
(43_walk.md R180-R184). -/

namespace Sys2Proof.Machine

open Sys2Proof.Safety

/-! ### NOP and WSTART, one RUN -/

/-- A success clears ERR and ECODE; IRQ read 0 with CC and ERR set, so both enables are 0 and it stays 0
(43_walk.md R180). -/
theorem State.succeed_statusWord_of_failed {s : State} (h : s.statusWord = 0x00000406#32) :
    s.succeed.statusWord = 0x00000002#32 := by
  obtain ⟨-, hcc, herr, hdone, hactive, hwrap, hovr, hirq⟩ := s.statusWord_bits
  simp only [h] at hcc herr hdone hactive hwrap hovr hirq
  obtain ⟨hcie, -⟩ : s.cie = false ∧ s.eie = false := by simpa [Engine.irq, ← hcc, ← herr] using hirq.symm
  simp [Engine.statusWord, Engine.irq, ← hdone, ← hactive, ← hwrap, ← hovr, hcie]

/-- A WSTART that fails validation writes CMD, at its acceptance, and the failure (43_walk.md R181). -/
theorem run_wstart_invalid {s : State} {w : Word} {n p : Int} {e : ErrorKind} (hb : s.busy = false)
    (hd : decode w = .ok (.wstart n p)) (hc : checkNP .other n p = some e) :
    runCommand w s = .next (failedWith e.code { s with cmd := w }) :=
  runCommand_completion hb hd (.badWstart n p e hc)

/-! ### The walk -/

/-- The engine is idle in a walk of the pair (n, p), whose next vertex is number `k`. -/
structure WalkAt (n p k : Nat) (s : State) : Prop where
  busy : s.busy = false
  active : s.active = true
  done : s.done = false
  wn : s.wn.toNat = n
  wp : s.wp.toNat = p
  gcnt : s.gcnt = BitVec.ofNat 32 k

/-- The last command succeeded, and the results are vertex `k` of the walk of (n, p) (43_walk.md R182). -/
structure ShowsVertex (n p k : Nat) (s : State) : Prop where
  err : s.err = false
  res0 : s.res0 = walkVertex n p k 0
  res1 : s.res1 = walkVertex n p k 1
  res2 : s.res2 = if n = 3 then walkVertex n p k 2 else 0#32
  res3 : s.res3 = skilling (gray (BitVec.ofNat 32 k)) n p

/-- The walk is over: its last vertex was produced (43_walk.md R182). -/
structure WalkDone (s : State) : Prop where
  active : s.active = false
  done : s.done = true
  gcnt : s.gcnt = 0#32

/-- GCNT is at the last vertex exactly when the index is 2^N - 1. -/
theorem ofNat_eq_mask_iff {N k : Nat} (hN : N ≤ 32) (hk : k < 2 ^ N) : BitVec.ofNat 32 k = mask N ↔ k + 1 = 2 ^ N := by
  have hpow : 2 ^ N ≤ 2 ^ 32 := Nat.pow_le_pow_right two_pos hN
  rw [mask, ← BitVec.toNat_inj, BitVec.toNat_ofNat, BitVec.toNat_ofNat, Nat.mod_eq_of_lt (by omega),
    Nat.mod_eq_of_lt (by omega)]
  omega

/-- RUN WSTART of a valid pair puts the engine at vertex 0 (43_walk.md R181). -/
theorem run_wstart {s : State} {w : Word} {n p : Nat} (hb : s.busy = false) (hd : decode w = .ok (.wstart n p))
    (hv : ValidPair n p) : ∃ t, runCommand w s = .next t ∧ t.err = false ∧ WalkAt n p 0 t := by
  have hvi := validPairInt_natCast hv
  obtain ⟨-, -, hwn, hwp⟩ := valid_toNat hvi
  exact ⟨_, runCommand_completion hb hd (.wstart n p hvi), rfl, rfl, rfl, rfl, hwn, hwp, rfl⟩

/-- RUN WSTEP before the last vertex shows the vertex and moves on to the next one (43_walk.md R182). -/
theorem WalkAt.run_wstep {n p k : Nat} {s : State} (h : WalkAt n p k s) (hm : BitVec.ofNat 32 k ≠ mask (n * p)) :
    ∃ t, runCommand (encode .wstep) s = .next t ∧ ShowsVertex n p k t ∧ WalkAt n p (k + 1) t := by
  obtain ⟨hb, ha, hd, rfl, rfl, hg⟩ := h
  refine ⟨_, runCommand_completion hb rfl (.wstep ha (hg ▸ hm)), ?_, rfl, ha, hd, rfl, rfl, ?_⟩
  · constructor <;> simp [walkVertex, walkIndex, hg]
  · simp [hg, BitVec.ofNat_add]

/-- RUN WSTEP at the last vertex shows the vertex and ends the walk (43_walk.md R182). -/
theorem WalkAt.run_wstep_last {n p k : Nat} {s : State} (h : WalkAt n p k s) (hm : BitVec.ofNat 32 k = mask (n * p)) :
    ∃ t, runCommand (encode .wstep) s = .next t ∧ ShowsVertex n p k t ∧ WalkDone t := by
  obtain ⟨hb, ha, hd, rfl, rfl, hg⟩ := h
  refine ⟨_, runCommand_completion hb rfl (.wlast ha (hg.trans hm)), ?_, rfl, rfl, rfl⟩
  constructor <;> simp [walkVertex, walkIndex, hg]

/-- RUN WSTOP keeps the index of the next vertex and ends the walk (43_walk.md R183). -/
theorem WalkAt.run_wstop {n p k : Nat} {s : State} (h : WalkAt n p k s) :
    ∃ t, runCommand 0x00000032#32 s = .next t ∧ t.gcnt = BitVec.ofNat 32 k ∧ t.active = false :=
  ⟨_, runCommand_completion h.busy rfl .wstop, h.gcnt, rfl⟩

/-- One more RUN WSTEP follows the ones made so far. -/
theorem runWsteps_succ {k : Nat} {s t : State} (h : runWsteps k s = .next t) :
    runWsteps (k + 1) s = runCommand (encode .wstep) t := by
  simp only [runWsteps, h]

/-- As many RUNs of WSTEP from vertex 0 as there are vertices before vertex `k` lead to it (43_walk.md R184, item 1). -/
theorem WalkAt.runWsteps_reaches {n p : Nat} {s : State} (h : WalkAt n p 0 s) (hv : ValidPair n p) {k : Nat}
    (hk : k < 2 ^ (n * p)) : ∃ u, runWsteps k s = .next u ∧ WalkAt n p k u := by
  induction k with
  | zero => exact ⟨s, rfl, h⟩
  | succ k ih =>
    have hk' : k < 2 ^ (n * p) := Nat.lt_of_succ_lt hk
    obtain ⟨u, hrun, hu⟩ := ih hk'
    obtain ⟨t, hstep, -, ht⟩ := hu.run_wstep (mt (ofNat_eq_mask_iff hv.2 hk').mp hk.ne)
    exact ⟨t, (runWsteps_succ hrun).trans hstep, ht⟩

/-- One RUN of WSTEP more shows vertex `k` (43_walk.md R184, item 1). -/
theorem WalkAt.runWsteps_shows {n p : Nat} {s : State} (h : WalkAt n p 0 s) (hv : ValidPair n p) {k : Nat}
    (hk : k < 2 ^ (n * p)) : ∃ t, runWsteps (k + 1) s = .next t ∧ ShowsVertex n p k t ∧
      (k + 1 = 2 ^ (n * p) → WalkDone t) ∧ (k + 1 ≠ 2 ^ (n * p) → WalkAt n p (k + 1) t) := by
  obtain ⟨u, hrun, hu⟩ := h.runWsteps_reaches hv hk
  have hlast := ofNat_eq_mask_iff hv.2 hk
  rw [runWsteps_succ hrun]
  by_cases hm : BitVec.ofNat 32 k = mask (n * p)
  · obtain ⟨t, hstep, hshow, hdone⟩ := hu.run_wstep_last hm
    exact ⟨t, hstep, hshow, fun _ => hdone, fun hne => absurd (hlast.mp hm) hne⟩
  · obtain ⟨t, hstep, hshow, hnext⟩ := hu.run_wstep hm
    exact ⟨t, hstep, hshow, fun heq => absurd (hlast.mpr heq) hm, fun _ => hnext⟩

end Sys2Proof.Machine
end

section
/-! The rules of the walk sequencer's and control commands (43_walk.md R180-R183). -/

namespace Sys2Proof.Proofs

open Sys2Proof.Machine Sys2Proof.Safety

/-- Settles O1: a STATUS of 0x406 has BUSY = 0, so the NOP is accepted, and its success leaves 0x002. -/
theorem nopRule : Obligations.NopRule := by
  refine ⟨selectedBy_of_decodeOpcode rfl fun _ _ => rfl, fun s l hl => Completion.nop.exec_eq hl, fun s h => ?_⟩
  have hb : s.busy = false := by simpa [h] using s.statusWord_bits.1.symm
  exact ⟨_, runCommand_completion hb rfl .nop, State.succeed_statusWord_of_failed (s := s) h⟩

/-- Settles O10: `checkNP` decides between the failures and `Completion.wstart`; the corner words are RUNs of their
pairs. -/
theorem wstartRule : Obligations.WstartRule := by
  refine ⟨selectedBy_of_decodeOpcode rfl fun _ _ => rfl, fun s l n p hl h2 h3 => ?_, fun s l n p hl hn hp => ?_,
    fun s l n p hl hv => ?_, fun s hb => ⟨?_, ?_, ?_⟩, ?_⟩
  · exact (Completion.badWstart n p _ (checkNP_dimension h2 h3 .other p)).exec_eq hl
  · exact (Completion.badWstart n p _ (checkNP_other_precision hn hp)).exec_eq hl
  · rw [← BitVec.ofInt_natCast, ← BitVec.ofInt_natCast]
    exact (Completion.wstart n p (validPairInt_natCast hv)).exec_eq hl
  · simp only [List.forall_mem_cons]
    exact ⟨run_wstart_invalid (n := 1) (p := 2) hb rfl rfl, run_wstart_invalid (n := 4) (p := 2) hb rfl rfl,
      run_wstart_invalid (n := 0) (p := -1) hb rfl rfl, List.forall_mem_nil _⟩
  · simp only [List.forall_mem_cons]
    exact ⟨run_wstart_invalid (n := 2) (p := 17) hb rfl rfl, run_wstart_invalid (n := 2) (p := -1) hb rfl rfl,
      run_wstart_invalid (n := 3) (p := 11) hb rfl rfl, List.forall_mem_nil _⟩
  · have hstart {w : Word} {n p : Nat} (hd : decode w = .ok (.wstart n p)) (hv : ValidPair n p) :
        ∃ t, runCommand w s = .next t ∧ t.err = false ∧ t.active = true := by
      obtain ⟨t, hrun, herr, ht⟩ := run_wstart hb hd hv
      exact ⟨t, hrun, herr, ht.active⟩
    simp only [List.forall_mem_cons]
    exact ⟨hstart (n := 2) (p := 0) rfl (by decide), hstart (n := 2) (p := 16) rfl (by decide),
      hstart (n := 3) (p := 10) rfl (by decide), List.forall_mem_nil _⟩
  · exact ⟨_, runCommand_completion rfl rfl (.wstart 2 1 (by decide)), by decide, rfl, rfl, by decide⟩

/-- Settles O11: `exec` is the matching case of `Completion`; the example reads the vertices 0, 1, 2 and 15 off
`WalkAt.runWsteps_shows`. -/
theorem wstepRule : Obligations.WstepRule := by
  refine ⟨selectedBy_of_decodeOpcode rfl fun _ _ => rfl, fun s l hl ha => (Completion.noWalk ha).exec_eq hl, ?_, ?_, ?_⟩
  · rintro s l _ _ _ hl ha rfl rfl rfl hm
    exact (Completion.wstep ha hm).exec_eq hl
  · rintro s l _ _ _ hl ha rfl rfl rfl hm
    exact (Completion.wlast ha hm).exec_eq hl
  · have hv : ValidPair 2 2 := by decide
    obtain ⟨s0, hstart, -, hs0⟩ :=
      run_wstart (s := State.reset) (w := 0x00020230#32) (n := 2) (p := 2) rfl rfl hv
    obtain ⟨t1, hrun1, h1, -⟩ := hs0.runWsteps_shows hv (k := 0) (by decide)
    obtain ⟨t2, hrun2, h2, -⟩ := hs0.runWsteps_shows hv (k := 1) (by decide)
    obtain ⟨t3, hrun3, h3, -⟩ := hs0.runWsteps_shows hv (k := 2) (by decide)
    obtain ⟨t16, hrun16, h16, hdone, -⟩ := hs0.runWsteps_shows hv (k := 15) (by decide)
    have hend := hdone rfl
    exact ⟨s0, t1, t2, t3, t16, hstart,
      hrun1, h1.res0.trans (by decide), h1.res1.trans (by decide), h1.res3.trans (by decide),
      hrun2, h2.res0.trans (by decide), h2.res1.trans (by decide), h2.res3.trans (by decide),
      hrun3, h3.res0.trans (by decide), h3.res1.trans (by decide), h3.res3.trans (by decide),
      hrun16, h16.res0.trans (by decide), h16.res1.trans (by decide), h16.res3.trans (by decide),
      hend.done, hend.active, hend.gcnt⟩

/-- Settles O12: five WSTEPs lead to vertex 5 of the 64, where WSTOP leaves GCNT. -/
theorem wstopRule : Obligations.WstopRule := by
  refine ⟨selectedBy_of_decodeOpcode rfl fun _ _ => rfl, fun s l hl => Completion.wstop.exec_eq hl, ?_⟩
  have hv : ValidPair 3 2 := by decide
  obtain ⟨s0, hstart, -, hs0⟩ := run_wstart (s := State.reset) (w := 0x00020330#32) (n := 3) (p := 2) rfl rfl hv
  obtain ⟨t, hrun, ht⟩ := hs0.runWsteps_reaches hv (k := 5) (by decide)
  obtain ⟨u, hstop, hgcnt, hactive⟩ := ht.run_wstop
  exact ⟨s0, t, u, hstart, hrun, hstop, hgcnt, hactive⟩

end Sys2Proof.Proofs
end

section
/-! The validation of (n, p) and the commands that run it (60_exceptions.md R204). -/

namespace Sys2Proof.Proofs

open Sys2Proof.Machine Sys2Proof.Safety

/-- Settles O42: the laws of `checkNP` by case; the four commands that run it complete as `Completion`'s failures. -/
theorem checkNPOrder : Obligations.CheckNPOrder := by
  refine fun n p => ⟨fun ⟨h2, h3⟩ unit => checkNP_dimension h2 h3 unit p, fun hn => ⟨fun hp => ?negative,
    fun hp hnp => ?tooWide, fun hp hnp _ => ?valid⟩, fun s l e hl => ⟨fun hskil => ?skil, fun hother => ?other⟩⟩
  case negative => exact checkNP_negative hn hp
  case tooWide => exact ⟨checkNP_tooWide hn hp hnp .skilling, checkNP_tooWide hn hp hnp .other⟩
  case valid => exact checkNP_eq_none.mpr ⟨hn, hp, hnp⟩
  case skil => exact (Completion.badSkil n p e hskil).exec_eq hl
  case other =>
    exact ⟨(Completion.badDec n p e hother).exec_eq hl, (Completion.badEnc n p e hother).exec_eq hl,
      (Completion.badWstart n p e hother).exec_eq hl⟩

end Sys2Proof.Proofs
end

section
/-! Reset (70_reset_and_hazards.md, section 1). -/

namespace Sys2Proof.Machine

/-- IRQ is 0 while no completion is recorded (10_state.md R31). -/
theorem Engine.irq_of_cc_eq_false {e : Engine} (h : e.cc = false) : e.irq = false := by
  rw [Engine.irq, h, Bool.false_and]

theorem Engine.reset_irq : Engine.reset.irq = false := Engine.irq_of_cc_eq_false Engine.reset_cc

/-- STATUS reads 0 after reset: IRQ and every other field of the word is 0 (70_reset_and_hazards.md R241). -/
theorem Engine.reset_statusWord : Engine.reset.statusWord = 0#32 := by
  simp [Engine.statusWord, Engine.reset_irq]

end Sys2Proof.Machine

namespace Sys2Proof.Proofs

open Sys2Proof.Machine

/-- Settles O49: the reset step is `resetEngine` by definition; the table is equality with `Engine.reset` field by field,
so that no field of `Engine` is left out. -/
theorem resetValues : Obligations.ResetValues := by
  refine ⟨fun s => ?resets, fun e => ?table, ?irq, ?status, fun e => ?id⟩
  case resets => rfl
  case table =>
    rw [State.reset_toEngine]
    cases e
    simp only [Engine.reset, Engine.mk.injEq]
  case irq => exact Engine.reset_irq
  case status => exact Engine.reset_statusWord
  case id => rfl

end Sys2Proof.Proofs
end

section
/-! SUPPORT. Command words as four bytes side by side, the fields of the assembler's word, and what the dispatch answers
(30_encoding.md, sections 1, 3 and 5); the byte lanes of a bus word (20_memory.md, section 2). -/

namespace Sys2Proof

/-! ### Four bytes side by side -/

theorem opcField_append (r p n o : Byte) : opcField (r ++ p ++ n ++ o) = o :=
  BitVec.extractLsb'_append_eq_right

theorem ndimField_append (r p n o : Byte) : ndimField (r ++ p ++ n ++ o) = n := by
  rw [ndimField, BitVec.extractLsb'_append_eq_of_le (by decide)]
  exact BitVec.extractLsb'_append_eq_right

theorem precField_append (r p n o : Byte) : precField (r ++ p ++ n ++ o) = p := by
  rw [precField, BitVec.extractLsb'_append_eq_of_le (by decide), BitVec.extractLsb'_append_eq_of_le (by decide)]
  exact BitVec.extractLsb'_append_eq_right

/-- A word is its four bytes, lane 3 first (20_memory.md R64). -/
theorem append_lanes (v : Word) : byteLane v 3 ++ byteLane v 2 ++ byteLane v 1 ++ byteLane v 0 = v := by
  have h32 : byteLane v 3 ++ byteLane v 2 = v.extractLsb' 16 16 :=
    BitVec.extractLsb'_append_extractLsb'_eq_extractLsb' rfl
  have h321 : v.extractLsb' 16 16 ++ byteLane v 1 = v.extractLsb' 8 24 :=
    BitVec.extractLsb'_append_extractLsb'_eq_extractLsb' rfl
  have h3210 : v.extractLsb' 8 24 ++ byteLane v 0 = v.extractLsb' 0 32 :=
    BitVec.extractLsb'_append_extractLsb'_eq_extractLsb' rfl
  rw [h32, h321, h3210, BitVec.extractLsb'_eq_self]

/-- A command word is RSV, PREC, NDIM and OPC side by side (30_encoding.md R81). -/
theorem append_fields (cw : Word) : rsvField cw ++ precField cw ++ ndimField cw ++ opcField cw = cw := append_lanes cw

/-! ### The two's-complement bytes -/

theorem fitsField_iff {x : Int} : fitsField x = true ↔ -128 ≤ x ∧ x ≤ 127 := by simp [fitsField]

/-- Every byte reads as a value of the field's range (30_encoding.md R82). -/
theorem sext8_range (b : Byte) : -128 ≤ sext8 b ∧ sext8 b ≤ 127 := ⟨b.le_toInt, Int.lt_add_one_iff.mp b.toInt_lt⟩

/-- A value in range is read back from its byte (30_encoding.md R82, R92). -/
theorem sext8_ofInt {x : Int} (h : fitsField x = true) : sext8 (BitVec.ofInt 8 x) = x := by
  obtain ⟨hlo, hhi⟩ := fitsField_iff.mp h
  exact BitVec.toInt_ofInt_eq_self (by decide) hlo (Int.lt_add_one_iff.mpr hhi)

/-! ### The operands of a command -/

/-- The command is one of the four that carry (n, p) (30_encoding.md R82, R86). -/
def Instr.CarriesPair (i : Instr) : Prop := ∃ n p, i = .skil n p ∨ i = .dec n p ∨ i = .enc n p ∨ i = .wstart n p

/-- Well-formed is: the two values that the assembler writes are in range. -/
theorem Instr.wellFormed_eq (i : Instr) : i.wellFormed = (fitsField (fieldsOf i).1 && fitsField (fieldsOf i).2) := by
  cases i <;> rfl

/-- The dispatch of a command's opcode, given its own operands, answers it (30_encoding.md R83). -/
theorem decodeOpcode_opcodeOf (i : Instr) : decodeOpcode (opcodeOf i) (fieldsOf i).1 (fieldsOf i).2 = .ok i := by
  cases i <;> rfl

/-- What the dispatch answers has the given operands, or has none to carry (30_encoding.md R83, R86). -/
theorem fieldsOf_of_decodeOpcode {o : Byte} {n p : Int} {i : Instr} (h : decodeOpcode o n p = .ok i) :
    fieldsOf i = (n, p) ∨ (fieldsOf i = (0, 0) ∧ ¬i.CarriesPair) := by
  unfold decodeOpcode at h
  split at h <;> cases h
  case h_7 | h_8 | h_9 | h_10 => exact .inl rfl
  all_goals exact .inr ⟨rfl, by simp [Instr.CarriesPair]⟩

/-- The dispatch answers a command at each of the twelve opcodes, whatever the operands (30_encoding.md R83). -/
theorem exists_decodeOpcode_of_mem {o : Byte} (n p : Int)
    (h : o ∈ [0x00#8, 0x01#8, 0x02#8, 0x03#8, 0x04#8, 0x05#8, 0x10#8, 0x20#8, 0x21#8, 0x30#8, 0x31#8, 0x32#8]) :
    ∃ i, decodeOpcode o n p = .ok i := by
  simp only [List.mem_cons, List.not_mem_nil, or_false] at h
  rcases h with rfl | rfl | rfl | rfl | rfl | rfl | rfl | rfl | rfl | rfl | rfl | rfl <;> exact ⟨_, rfl⟩

end Sys2Proof
end

section
/-! Decoding and encoding undo one another, the decoder is total, and a word is its byte lanes
(30_encoding.md, sections 1 to 5; 20_memory.md, section 2). -/

namespace Sys2Proof.Proofs

open Sys2Proof.Machine Sys2Proof.Safety

/-- Settles O22: the decoder reads the assembler's four bytes back, and both operands lie in the range of a byte. -/
theorem decodeOfEncode : Obligations.DecodeOfEncode := by
  intro i hi
  rw [Instr.wellFormed_eq, Bool.and_eq_true] at hi
  obtain ⟨hn, hp⟩ := hi
  refine decode_eq_ok.mpr ⟨Laws.rsvField_append _ _ _, ?_⟩
  rw [encode, opcField_append, ndimField_append, precField_append, sext8_ofInt hn, sext8_ofInt hp]
  exact decodeOpcode_opcodeOf i

/-- Settles O23: a decoded word is 0, PREC, NDIM and the command's opcode, and so is the assembler's word, but for the
two middle bytes of the commands without (n, p). -/
theorem encodeOfDecode : Obligations.EncodeOfDecode := by
  intro cw i h
  obtain ⟨hrsv, hop⟩ := decode_eq_ok.mp h
  have hcw : 0#8 ++ precField cw ++ ndimField cw ++ opcodeOf i = cw := by
    rw [← eq_opcodeOf_of_decodeOpcode hop, ← hrsv, append_fields]
  have hfields := fieldsOf_of_decodeOpcode hop
  refine ⟨?wellFormed, ?outer, fun hpair => ?whole⟩
  case wellFormed =>
    rw [Instr.wellFormed_eq, Bool.and_eq_true, fitsField_iff, fitsField_iff]
    obtain hf | ⟨hf, -⟩ := hfields <;> rw [hf]
    · exact ⟨sext8_range _, sext8_range _⟩
    · decide
  case outer =>
    have houter (p n : Byte) : (0#8 ++ p ++ n ++ opcodeOf i) &&& (BitVec.allOnes 8 ++ 0#8 ++ 0#8 ++ BitVec.allOnes 8) =
        0#8 ++ 0#8 ++ 0#8 ++ opcodeOf i := by
      simp only [BitVec.and_append, BitVec.and_allOnes, BitVec.and_zero]
    exact (houter _ _).trans ((houter _ _).symm.trans (congrArg (· &&& 0xFF0000FF#32) hcw))
  case whole =>
    have hf := hfields.resolve_right fun hnone => hnone.2 hpair
    rw [encode, hf]
    simp only [sext8, BitVec.ofInt_toInt]
    exact hcw

/-- Settles O26: `fields_of_decode` one way, the dispatch on the twelve opcodes the other; the illegal ranges are the
rest of the byte. -/
theorem decoderTotal : Obligations.DecoderTotal := by
  have hiff (cw : Word) : (∃ i, decode cw = .ok i) ↔ cw >>> 24 = 0#32 ∧ cw &&& 0xFF#32 ∈ [0x00#32, 0x01#32, 0x02#32,
      0x03#32, 0x04#32, 0x05#32, 0x10#32, 0x20#32, 0x21#32, 0x30#32, 0x31#32, 0x32#32] := by
    constructor
    · rintro ⟨i, hi⟩
      obtain ⟨hrsv, hopc⟩ := fields_of_decode hi
      exact ⟨hrsv, hopc ▸ opcodeOf_mem i⟩
    · rintro ⟨hrsv, hmem⟩
      rw [ushiftRight_rsv] at hrsv
      have hrsv0 : rsvField cw = 0#8 := by simpa using congrArg (BitVec.setWidth 8) hrsv
      obtain ⟨i, hi⟩ := exists_decodeOpcode_of_mem (sext8 (ndimField cw)) (sext8 (precField cw))
        (opcField_mem_of_and_mem hmem)
      exact ⟨i, decode_eq_ok.mpr ⟨hrsv0, hi⟩⟩
  refine ⟨hiff, fun cw hrsv => ?_⟩
  have hbyte : (cw &&& 0xFF#32).toNat ≤ 0xFF := Nat.and_le_right
  rw [hiff, and_iff_right hrsv]
  simp only [List.mem_cons, List.not_mem_nil, or_false, ← BitVec.toNat_inj, BitVec.toNat_ofNat]
  omega

/-- Settles O25: NDIM and PREC, as the decoder reads them, are the operands of each of the four commands. -/
theorem operandAssembly : Obligations.OperandAssembly := by
  intro cw n p h
  obtain ⟨i, hi, hpair, hf⟩ : ∃ i, decode cw = .ok i ∧ i.CarriesPair ∧ fieldsOf i = (n, p) := by
    rcases h with h | h | h | h <;> exact ⟨_, h, ⟨n, p, by simp⟩, rfl⟩
  have hop := (decode_eq_ok.mp hi).2
  have hnp := (fieldsOf_of_decodeOpcode hop).resolve_right fun hnone => hnone.2 hpair
  obtain ⟨rfl, rfl⟩ := Prod.mk.inj (hf.symm.trans hnp)
  obtain ⟨hnlo, hnhi⟩ := sext8_range (ndimField cw)
  obtain ⟨hplo, hphi⟩ := sext8_range (precField cw)
  exact ⟨rfl, rfl, hnlo, hnhi, hplo, hphi⟩

/-- Settles O28: the seven words are evaluated; for the six others, RSV or OPC is refused by `decoderTotal`. -/
theorem sampleWordsDecode : Obligations.SampleWordsDecode := by
  refine ⟨rfl, rfl, rfl, rfl, rfl, rfl, rfl, fun w hw => ?_⟩
  rw [decoderTotal.1]
  simp only [List.mem_cons, List.not_mem_nil, or_false] at hw
  rcases hw with rfl | rfl | rfl | rfl | rfl | rfl <;> decide

/-- Settles O39: the lanes are the word's bytes, so `wordOfLanes` is `append_lanes`; both byte decoders then read that
word. -/
theorem littleEndianLanes : Obligations.LittleEndianLanes := by
  have hbytes (v : Word) (rest : List Byte) :
      decodeBytes (lanesOfWord v ++ rest) = (decode v).map (fun i => (i, rest)) := by
    simp only [lanesOfWord, List.cons_append, List.nil_append, decodeBytes, wordOfLanes, append_lanes]
  refine ⟨fun v j k _ hk => ?_, append_lanes, hbytes, fun w hw => ?_⟩
  · rw [byteLane, BitVec.getLsbD_extractLsb', decide_eq_true hk, Bool.true_and]
  · have hlanes := hbytes (BitVec.ofNat 32 w) []
    rw [List.append_nil] at hlanes
    rw [decodeTableWord, Nat.mod_eq_of_lt hw, hlanes]
    cases decode (BitVec.ofNat 32 w) <;> rfl

end Sys2Proof.Proofs
end

section
/-! SUPPORT. What a step can do to the engine, said once (20_memory.md R67), and what a completion keeps of the
invariants (10_state.md R36; 10_state.md R29; 60_exceptions.md R203). -/

namespace Sys2Proof.Machine

open Sys2Proof.Safety

/-! ### One step -/

/-- Everything a step from `s` can have done to the engine; a completion is one of `s` with its event taken off. -/
inductive StepEffect (s t : State) : Prop where
  /-- a read, an ignored write, or the turn of an idle engine -/
  | kept (h : t.toEngine = s.toEngine)
  /-- RST, or a CTRL write with bit 2 -/
  | reset (h : ResetStep s t)
  /-- any other CTRL write -/
  | enables (v : Word) (h : t.toEngine = (s.writeEnables v).toEngine)
  /-- a STATUS write -/
  | cleared (v : Word) (rest : List Event) (hin : s.inputs = .write 0x08#6 32 v :: rest)
      (h : t.toEngine = (s.clearStatus v).toEngine)
  /-- a CMD write while BUSY = 1 -/
  | dropped (h : t.toEngine = s.dropCommand.toEngine)
  /-- a CMD write while BUSY = 0 -/
  | accepted (v : Word) (h : t.toEngine = (s.acceptCommand v).toEngine)
  /-- a write to an operand register -/
  | operands (a b c : Word) (h : t.toEngine = (s.withOperands a b c).toEngine)
  /-- the completion of a word that does not decode -/
  | illegal (h : t.toEngine = (s.fail .illegalCommand).toEngine)
  /-- the completion of the pending command -/
  | completed (l : Pending) (i : Instr) (hb : s.busy = true) (hp : s.pend = some l) (hd : decode l.cw = .ok i)
      (h : Completion l { s with inputs := t.inputs } i t)

theorem stepEffect_of_engineTurn {s t : State} {rest : List Event}
    (h : engineTurn { s with inputs := rest } = .next t) : StepEffect s t := by
  obtain ⟨rfl, -⟩ | ⟨l, hb, hp, rfl | ⟨i, hd, hc⟩⟩ := engineTurn_next h
  · exact .kept rfl
  · exact .illegal rfl
  · exact .completed l i hb hp hd (hc.inputs_eq ▸ hc)

theorem stepEffect_of_write {s : State} {off : Offset} {v : Word} {r : Reg} {rest : List Event}
    (hin : s.inputs = .write off 32 v :: rest) (hr : regAt off = some r) :
    StepEffect s (({ s with inputs := rest } : State).regWrite r v) := by
  obtain ⟨rfl, hv, ht⟩ | ⟨rfl, -, ht⟩ | ⟨rfl, ht⟩ | ⟨rfl, -, ht⟩ | ⟨rfl, -, ht⟩ | ⟨rfl, ht⟩ | ⟨rfl, ht⟩ | ⟨rfl, ht⟩
    | ht :=
    State.regWrite_cases r v { s with inputs := rest }
  all_goals rw [ht]
  · obtain rfl := regAt_eq_ctrl.mp hr
    exact .reset ⟨rfl, rest, .inr ⟨v, hv, hin⟩⟩
  · exact .enables v rfl
  · obtain rfl := regAt_eq_status.mp hr
    exact .cleared v rest hin rfl
  · exact .dropped rfl
  · exact .accepted v rfl
  · exact .operands v s.opb s.opc rfl
  · exact .operands s.opa v s.opc rfl
  · exact .operands s.opa s.opb v rfl
  · exact .kept rfl

theorem step_effect {s t : State} (h : step s = .next t) : StepEffect s t := by
  obtain ⟨-, hturn⟩ | ⟨e, rest, hin, he⟩ := step_next h
  · exact stepEffect_of_engineTurn (rest := s.inputs) hturn
  obtain ⟨_, _, -, -, rfl⟩ | ⟨off, v, r, rfl, hr, rfl⟩ | ⟨rfl, rfl⟩ | ⟨-, hturn⟩ := takeEvent_next he
  · exact .kept rfl
  · exact stepEffect_of_write hin hr
  · exact .reset ⟨rfl, rest, .inl hin⟩
  · exact stepEffect_of_engineTurn hturn

/-! ### The invariants -/

theorem irqMirrorsSources (e : Engine) : IrqMirrorsSources e := by
  obtain ⟨-, -, -, -, -, -, -, hirq⟩ := e.statusWord_bits
  exact hirq

/-- A completion is a success, or a failure that writes the completion status only (60_exceptions.md R201, R202). -/
theorem Completion.success_or_fail {l : Pending} {s t : State} {i : Instr} (h : Completion l s i t) :
    (t.err = false ∧ t.ecode = 0#4) ∨ ∃ e, t = s.fail e := by
  cases h
  case gnextInWalk | grstInWalk | gloadInWalk | noWalk | badSkil | badDec | badEnc | badWstart => exact .inr ⟨_, rfl⟩
  all_goals exact .inl ⟨rfl, rfl⟩

theorem State.fail_errMirrorsCode (e : ErrorKind) (s : State) : ErrMirrorsCode (s.fail e).toEngine :=
  ⟨fun _ => e.code_ne_zero, fun _ => rfl⟩

theorem Completion.errMirrorsCode {l : Pending} {s t : State} {i : Instr} (h : Completion l s i t) :
    ErrMirrorsCode t.toEngine := by
  obtain ⟨herr, hcode⟩ | ⟨e, rfl⟩ := h.success_or_fail
  · simp [ErrMirrorsCode, herr, hcode]
  · exact s.fail_errMirrorsCode e

theorem Completion.codeAssigned {l : Pending} {s t : State} {i : Instr} (h : Completion l s i t) :
    CodeAssigned t.toEngine := by
  obtain ⟨-, hcode⟩ | ⟨e, rfl⟩ := h.success_or_fail
  · simp [CodeAssigned, hcode]
  · exact e.code_range.2

/-- Before the last vertex, the next index is still one of the walk's (43_walk.md R182). -/
theorem succ_toNat_le_of_ne_mask {N : Nat} {g : Word} (hN : N ≤ 32) (hg : g.toNat ≤ 2 ^ N - 1) (hm : g ≠ mask N) :
    (g + 1#32).toNat ≤ 2 ^ N - 1 := by
  have hpow := Nat.one_le_two_pow (n := N)
  have hlast : g.toNat + 1 ≠ 2 ^ N := fun heq => by
    have hmask := (ofNat_eq_mask_iff (k := g.toNat) hN (by omega)).mpr heq
    exact hm (by rwa [BitVec.ofNat_toNat, BitVec.setWidth_eq] at hmask)
  calc (g + 1#32).toNat ≤ g.toNat + 1 := by rw [BitVec.toNat_add]; exact Nat.mod_le _ _
    _ ≤ 2 ^ N - 1 := by omega

/-- The pair that a successful WSTART stores is valid (43_walk.md R181). -/
theorem validPair_ofInt {n p : Int} (h : ValidPairInt n p) :
    ValidPair (BitVec.ofInt 8 n).toNat (BitVec.ofInt 8 p).toNat := by
  obtain ⟨hn, hnp, hwn, hwp⟩ := valid_toNat h
  rw [hwn, hwp]
  exact ⟨hn, hnp⟩

/-- WSTART begins in range, WSTEP stays in it or ends the walk, and no other command moves GCNT during a walk
(10_state.md R36, item 3). -/
theorem Completion.walkInRange {l : Pending} {s t : State} {i : Instr} (h : Completion l s i t)
    (hw : WalkInRange s.toEngine) : WalkInRange t.toEngine := by
  cases h
  case gnext ha | grst ha | gload ha => exact fun hact => absurd (ha.symm.trans hact) Bool.false_ne_true
  case wlast | wstop => exact fun hact => absurd hact Bool.false_ne_true
  case wstart hv => exact fun _ => ⟨validPair_ofInt hv, Nat.zero_le _⟩
  case wstep ha hm =>
    obtain ⟨hpair, hg⟩ := hw ha
    exact fun _ => ⟨hpair, succ_toNat_le_of_ne_mask hpair.2 hg hm⟩
  all_goals exact hw

/-- WSTART writes a valid pair, and no other command writes WCFG (10_state.md R29). -/
theorem Completion.walkConfigValid {l : Pending} {s t : State} {i : Instr} (h : Completion l s i t)
    (hw : WalkConfigValid s.toEngine) : WalkConfigValid t.toEngine := by
  cases h
  case wstart hv => exact .inr (validPair_ofInt hv)
  all_goals exact hw

theorem engineInvariant_reset : EngineInvariant Engine.reset :=
  ⟨rfl, by simp [ErrMirrorsCode], fun hact => absurd hact Bool.false_ne_true, irqMirrorsSources _⟩

end Sys2Proof.Machine
end

section
/-! The invariants of the engine's state (10_state.md, sections 2 and 5; 60_exceptions.md, section 2). -/

namespace Sys2Proof.Proofs

open Sys2Proof.Machine Sys2Proof.Safety

/-- Settles O51: the completions by `Completion.idle`, `Completion.errMirrorsCode` and `Completion.walkInRange`; of the
other steps only an accepted CMD write touches what the invariants speak of, and it sets BUSY with PEND. -/
theorem invariantKept : Obligations.InvariantKept := by
  rintro s t ⟨hbusy, herr, hwalk, -⟩ h
  cases step_effect h with
  | kept ht | enables _ ht | cleared _ _ _ ht | dropped ht | operands _ _ _ ht =>
    rw [ht]
    exact ⟨hbusy, herr, hwalk, irqMirrorsSources _⟩
  | reset ht => rw [ht.1]; exact engineInvariant_reset
  | accepted v ht => rw [ht]; exact ⟨rfl, herr, hwalk, irqMirrorsSources _⟩
  | illegal ht => rw [ht]; exact ⟨rfl, s.fail_errMirrorsCode _, hwalk, irqMirrorsSources _⟩
  | completed l i hb hp hd hc =>
    obtain ⟨-, hidle, hempty⟩ := hc.idle
    have hmirror : BusyMirrorsLatch t.toEngine := by rw [BusyMirrorsLatch, hidle, hempty, Option.isSome_none]
    exact ⟨hmirror, hc.errMirrorsCode, hc.walkInRange hwalk, irqMirrorsSources _⟩

/-- Settles O53: only WSTART writes WCFG, a valid pair, and every completion reports an assigned code. -/
theorem configInvariantKept : Obligations.ConfigInvariantKept := by
  intro s t hcfg hcode h
  cases step_effect h with
  | kept ht | enables _ ht | cleared _ _ _ ht | dropped ht | accepted _ ht | operands _ _ _ ht =>
    rw [ht]
    exact ⟨hcfg, hcode⟩
  | reset ht => rw [ht.1]; exact ⟨.inl ⟨rfl, rfl⟩, Nat.zero_le _⟩
  | illegal ht => rw [ht]; exact ⟨hcfg, ErrorKind.illegalCommand.code_range.2⟩
  | completed l i hb hp hd hc => exact ⟨hc.walkConfigValid hcfg, hc.codeAssigned⟩

/-- Settles O52: after reset no command is pending, no walk is active, and ERR, ECODE and WCFG are 0. -/
theorem invariantsAtReset : Obligations.InvariantsAtReset :=
  ⟨engineInvariant_reset, .inl ⟨rfl, rfl⟩, Nat.zero_le _⟩

end Sys2Proof.Proofs
end

section
/-! SUPPORT. Which command reports which error (60_exceptions.md R203), which registers a completion writes
(10_state.md, section 2), and what a completion reads: the latch, GCNT and the walk state (60_exceptions.md R200). -/

namespace Sys2Proof.Machine

open Sys2Proof.Safety

/-! ### Which command reports which error -/

/-- The errors a command can report, by its operands and ACTIVE (60_exceptions.md R203, R204). -/
inductive Reports (active : Bool) (i : Instr) : ErrorKind → Prop where
  | sequence (h : (i = .wstep ∧ active = false) ∨ (active = true ∧ (i = .gnext ∨ i = .grst ∨ i = .gload))) :
      Reports active i .sequenceError
  | dimension (n p : Int) (h2 : n ≠ 2) (h3 : n ≠ 3)
      (h : i = .skil n p ∨ i = .dec n p ∨ i = .enc n p ∨ i = .wstart n p) : Reports active i .invalidDimension
  | negative (n p : Int) (hp : p < 0) (h : i = .skil n p ∨ i = .dec n p ∨ i = .enc n p ∨ i = .wstart n p) :
      Reports active i .invalidPrecision
  | tooWide (n p : Int) (hnp : 32 < n * p) (h : i = .dec n p ∨ i = .enc n p ∨ i = .wstart n p) :
      Reports active i .invalidPrecision
  | overflow (n p : Int) (hnp : 32 < n * p) (h : i = .skil n p) : Reports active i .arithmeticOverflow

theorem reports_skil {n p : Int} {e : ErrorKind} (h : checkNP .skilling n p = some e) (active : Bool) :
    Reports active (.skil n p) e := by
  obtain ⟨hn, rfl⟩ | ⟨-, hp, rfl⟩ | ⟨-, -, hnp, rfl⟩ := checkNP_eq_some h
  · obtain ⟨h2, h3⟩ := not_or.mp hn
    exact .dimension n p h2 h3 (.inl rfl)
  · exact .negative n p hp (.inl rfl)
  · exact .overflow n p hnp rfl

theorem reports_other {i : Instr} {n p : Int} {e : ErrorKind} (hi : i = .dec n p ∨ i = .enc n p ∨ i = .wstart n p)
    (h : checkNP .other n p = some e) (active : Bool) : Reports active i e := by
  obtain ⟨hn, rfl⟩ | ⟨-, hp, rfl⟩ | ⟨-, -, hnp, rfl⟩ := checkNP_eq_some h
  · obtain ⟨h2, h3⟩ := not_or.mp hn
    exact .dimension n p h2 h3 (.inr hi)
  · exact .negative n p hp (.inr hi)
  · exact .tooWide n p hnp hi

/-- `Completion.success_or_fail`, with the reason of the failure (60_exceptions.md R201 to R204). -/
theorem Completion.success_or_reports {l : Pending} {s t : State} {i : Instr} (h : Completion l s i t) :
    (t.err = false ∧ t.ecode = 0#4) ∨ ∃ e, t = s.fail e ∧ Reports s.active i e := by
  cases h
  case gnextInWalk ha => exact .inr ⟨_, rfl, .sequence (.inr ⟨ha, by simp⟩)⟩
  case grstInWalk ha => exact .inr ⟨_, rfl, .sequence (.inr ⟨ha, by simp⟩)⟩
  case gloadInWalk ha => exact .inr ⟨_, rfl, .sequence (.inr ⟨ha, by simp⟩)⟩
  case noWalk ha => exact .inr ⟨_, rfl, .sequence (.inl ⟨rfl, ha⟩)⟩
  case badSkil hc => exact .inr ⟨_, rfl, reports_skil hc _⟩
  case badDec hc => exact .inr ⟨_, rfl, reports_other (by simp) hc _⟩
  case badEnc hc => exact .inr ⟨_, rfl, reports_other (by simp) hc _⟩
  case badWstart hc => exact .inr ⟨_, rfl, reports_other (by simp) hc _⟩
  all_goals exact .inl ⟨rfl, rfl⟩

/-- Different errors have different codes (60_exceptions.md R203). -/
theorem ErrorKind.code_injective : Function.Injective ErrorKind.code := by
  intro e e' h
  cases e <;> cases e' <;> simp_all [ErrorKind.code]

/-! ### Which registers a completion writes -/

/-- RES0 to RES3 together (10_state.md R27). -/
def Engine.results (e : Engine) : Word × Word × Word × Word := (e.res0, e.res1, e.res2, e.res3)

theorem Engine.results_eq_iff {e e' : Engine} :
    e.results = e'.results ↔ e.res0 = e'.res0 ∧ e.res1 = e'.res1 ∧ e.res2 = e'.res2 ∧ e.res3 = e'.res3 := by
  simp only [Engine.results, Prod.mk.injEq]

/-- The seven commands that produce results (10_state.md R27). -/
def ProducesResults (i : Instr) : Prop :=
  i ∈ [Instr.gray, .ginv, .gnext, .wstep] ∨ ∃ n p, i = .skil n p ∨ i = .dec n p ∨ i = .enc n p

theorem Completion.results_eq {l : Pending} {s t : State} {i : Instr} (h : Completion l s i t) :
    t.results = s.results ∨ (t.err = false ∧ ProducesResults i) := by
  cases h
  case gray | ginv | gnext | wstep | wlast => exact .inr ⟨rfl, .inl (by simp)⟩
  case skil n p _ => exact .inr ⟨rfl, .inr ⟨n, p, .inl rfl⟩⟩
  case dec n p _ => exact .inr ⟨rfl, .inr ⟨n, p, .inr (.inl rfl)⟩⟩
  case enc n p _ => exact .inr ⟨rfl, .inr ⟨n, p, .inr (.inr rfl)⟩⟩
  all_goals exact .inl rfl

theorem Completion.gcnt_eq {l : Pending} {s t : State} {i : Instr} (h : Completion l s i t) :
    t.gcnt = s.gcnt ∨ (t.err = false ∧ (i ∈ [Instr.gnext, .grst, .gload, .wstep] ∨ ∃ n p, i = .wstart n p)) := by
  cases h
  case gnext | grst | gload | wstep | wlast => exact .inr ⟨rfl, .inl (by simp)⟩
  case wstart => exact .inr ⟨rfl, .inr ⟨_, _, rfl⟩⟩
  all_goals exact .inl rfl

theorem Completion.config_eq {l : Pending} {s t : State} {i : Instr} (h : Completion l s i t) :
    (t.wn = s.wn ∧ t.wp = s.wp) ∨ (t.err = false ∧ ∃ n p, i = .wstart n p) := by
  cases h
  case wstart => exact .inr ⟨rfl, _, _, rfl⟩
  all_goals exact .inl ⟨rfl, rfl⟩

theorem Completion.active_eq {l : Pending} {s t : State} {i : Instr} (h : Completion l s i t) :
    t.active = s.active ∨ (t.err = false ∧ (i ∈ [Instr.wstep, .wstop] ∨ ∃ n p, i = .wstart n p)) := by
  cases h
  case wlast | wstop => exact .inr ⟨rfl, .inl (by simp)⟩
  case wstart => exact .inr ⟨rfl, .inr ⟨_, _, rfl⟩⟩
  all_goals exact .inl rfl

/-- No completion clears a sticky bit, but for WSTART's DONE (10_state.md R23, 43_walk.md R181). -/
theorem Completion.done_sticky {l : Pending} {s t : State} {i : Instr} (h : Completion l s i t) (hs : s.done = true) :
    t.done = true ∨ (t.err = false ∧ ∃ n p, i = .wstart n p) := by
  cases h
  case wstart => exact .inr ⟨rfl, _, _, rfl⟩
  case wlast => exact .inl rfl
  all_goals exact .inl hs

theorem Completion.wrap_sticky {l : Pending} {s t : State} {i : Instr} (h : Completion l s i t) (hs : s.wrap = true) :
    t.wrap = true := by
  cases h
  case gnext => simp [hs]
  all_goals exact hs

theorem Completion.ovr_eq {l : Pending} {s t : State} {i : Instr} (h : Completion l s i t) : t.ovr = s.ovr := by
  cases h <;> rfl

/-! ### Which step changes a register -/

/-- A completion of the pending command without an error is its success (60_exceptions.md R202). -/
theorem successOf_completion {l : Pending} {s t : State} {i : Instr} (hb : s.busy = true) (hp : s.pend = some l)
    (hd : decode l.cw = .ok i) (hc : Completion l { s with inputs := t.inputs } i t) (herr : t.err = false) :
    SuccessOf i s t :=
  ⟨⟨l, hb, hp, hd⟩, hc.exec_eq hp, herr, hc.idle⟩

/-- A step is a reset, or keeps RES0 to RES3, GCNT and the walk state, or completes the pending command. -/
theorem step_frame {s t : State} (h : step s = .next t) : ResetStep s t ∨
    (t.results = s.results ∧ t.gcnt = s.gcnt ∧ (t.wn = s.wn ∧ t.wp = s.wp) ∧ t.active = s.active) ∨
    ∃ l i, s.busy = true ∧ s.pend = some l ∧ decode l.cw = .ok i ∧
      Completion l { s with inputs := t.inputs } i t := by
  cases step_effect h with
  | reset ht => exact .inl ht
  | completed l i hb hp hd hc => exact .inr (.inr ⟨l, i, hb, hp, hd, hc⟩)
  | kept ht | enables _ ht | cleared _ _ _ ht | dropped ht | accepted _ ht | operands _ _ _ ht | illegal ht =>
    rw [ht]
    exact .inr (.inl ⟨rfl, rfl, ⟨rfl, rfl⟩, rfl⟩)

/-- A bit that a STATUS write has at 1 stays 1, or the write has that bit set (10_state.md R24). -/
theorem sticky_or_clears {s : State} {v : Word} {rest : List Event} (hin : s.inputs = .write 0x08#6 32 v :: rest)
    {x : Bool} (hx : x = true) (k : Nat) : (x && !v.getLsbD k) = true ∨ ClearsStatusBit k s := by
  cases hv : v.getLsbD k with
  | false => exact .inl (by rw [hx, Bool.not_false, Bool.and_true])
  | true => exact .inr ⟨v, rest, hv, hin⟩

/-! ### What a completion reads -/

/-- What a completion writes besides CC, BUSY and PEND; `none` where a register stays. -/
structure Writes where
  error : Option ErrorKind := none
  results : Option (Word × Word × Word × Word) := none
  gcnt : Option Word := none
  config : Option (Byte × Byte) := none
  active : Option Bool := none
  done : Option Bool := none
  wrap : Bool := false

/-- The writes made in an engine. -/
def Writes.apply (w : Writes) (e : Engine) : Engine :=
  { e with
    err := w.error.isSome
    ecode := w.error.elim 0#4 ErrorKind.code
    cc := true
    busy := false
    pend := none
    res0 := w.results.elim e.res0 (·.1)
    res1 := w.results.elim e.res1 (·.2.1)
    res2 := w.results.elim e.res2 (·.2.2.1)
    res3 := w.results.elim e.res3 (·.2.2.2)
    gcnt := w.gcnt.getD e.gcnt
    wn := w.config.elim e.wn (·.1)
    wp := w.config.elim e.wp (·.2)
    active := w.active.getD e.active
    done := w.done.getD e.done
    wrap := w.wrap || e.wrap }

def Writes.complete (w : Writes) (s : State) : State := { s with toEngine := w.apply s.toEngine }

/-- The writes of the four results of an index (42_codec.md R164, 43_walk.md R182). -/
def coordResults (v : Word) (n p : Nat) (r3 : Word) : Word × Word × Word × Word :=
  (decodeAxis v n p 0, decodeAxis v n p 1, if n = 3 then decodeAxis v n p 2 else 0#32, r3)

/-- `o`, but for what a completion reads, which is from `s`: PEND, GCNT and the walk state (60_exceptions.md R200). -/
def State.withCommandState (s o : State) : State :=
  { o with pend := s.pend, gcnt := s.gcnt, wn := s.wn, wp := s.wp, active := s.active }

/-- A completion makes the same writes whatever the rest of the state holds (60_exceptions.md R200). -/
theorem Completion.exists_writes {l : Pending} {s t : State} {i : Instr} (h : Completion l s i t) :
    ∃ w : Writes, ∀ o, Completion l (s.withCommandState o) i (w.complete (s.withCommandState o)) := by
  cases h
  case gnextInWalk ha => exact ⟨{ error := some .sequenceError }, fun _ => .gnextInWalk ha⟩
  case grstInWalk ha => exact ⟨{ error := some .sequenceError }, fun _ => .grstInWalk ha⟩
  case gloadInWalk ha => exact ⟨{ error := some .sequenceError }, fun _ => .gloadInWalk ha⟩
  case noWalk ha => exact ⟨{ error := some .sequenceError }, fun _ => .noWalk ha⟩
  case badSkil e hc => exact ⟨{ error := some e }, fun _ => .badSkil _ _ e hc⟩
  case badDec e hc => exact ⟨{ error := some e }, fun _ => .badDec _ _ e hc⟩
  case badEnc e hc => exact ⟨{ error := some e }, fun _ => .badEnc _ _ e hc⟩
  case badWstart e hc => exact ⟨{ error := some e }, fun _ => .badWstart _ _ e hc⟩
  case nop => exact ⟨{}, fun _ => .nop⟩
  case gray => exact ⟨{ results := some (Machine.gray l.a, 0#32, 0#32, 0#32) }, fun _ => .gray⟩
  case ginv => exact ⟨{ results := some (Machine.ginv l.a, 0#32, 0#32, 0#32) }, fun _ => .ginv⟩
  case gnext ha =>
    refine ⟨{ results := some (Machine.gray s.gcnt, s.gcnt, 0#32, 0#32), gcnt := some (s.gcnt + 1#32),
              wrap := s.gcnt == 0xFFFFFFFF#32 }, fun o => ?_⟩
    rw [Writes.complete, Writes.apply, Bool.or_comm]
    exact .gnext ha
  case grst ha => exact ⟨{ gcnt := some 0#32 }, fun _ => .grst ha⟩
  case gload ha => exact ⟨{ gcnt := some l.a }, fun _ => .gload ha⟩
  case skil n p hv =>
    exact ⟨{ results := some (skilling (maskIndex l.a n.toNat p.toNat) n.toNat p.toNat, 0#32, 0#32, 0#32) },
      fun _ => .skil n p hv⟩
  case dec n p hv =>
    exact ⟨{ results := some (coordResults (maskIndex l.a n.toNat p.toNat) n.toNat p.toNat 0#32) },
      fun _ => .dec n p hv⟩
  case enc n p hv =>
    exact ⟨{ results := some (encodeCoords (maskCoord l.a p.toNat) (maskCoord l.b p.toNat) (maskCoord l.c p.toNat)
      n.toNat p.toNat, 0#32, 0#32, 0#32) }, fun _ => .enc n p hv⟩
  case wstart n p hv =>
    exact ⟨{ gcnt := some 0#32, config := some (BitVec.ofInt 8 n, BitVec.ofInt 8 p), active := some true,
             done := some false }, fun _ => .wstart n p hv⟩
  case wstep ha hm =>
    exact ⟨{ results := some (coordResults (walkIndex s.gcnt s.wn.toNat s.wp.toNat) s.wn.toNat s.wp.toNat
               (walkIndex s.gcnt s.wn.toNat s.wp.toNat)), gcnt := some (s.gcnt + 1#32) }, fun _ => .wstep ha hm⟩
  case wlast ha hm =>
    exact ⟨{ results := some (coordResults (walkIndex s.gcnt s.wn.toNat s.wp.toNat) s.wn.toNat s.wp.toNat
               (walkIndex s.gcnt s.wn.toNat s.wp.toNat)), gcnt := some 0#32, active := some false,
             done := some true }, fun _ => .wlast ha hm⟩
  case wstop => exact ⟨{ active := some false }, fun _ => .wstop⟩

/-- One list of writes serves every state that agrees on the latch, GCNT and the walk state (60_exceptions.md R200). -/
theorem exec_writes {i : Instr} {s t : State} (h : exec i s = .next t) :
    ∃ w : Writes, ∀ s' : State, s.pend = s'.pend → s.gcnt = s'.gcnt → s.wn = s'.wn → s.wp = s'.wp →
      s.active = s'.active → exec i s' = .next (w.complete s') := by
  obtain ⟨l, hl, hc⟩ := exec_next h
  obtain ⟨w, hw⟩ := hc.exists_writes
  refine ⟨w, fun s' hp hg hwn hwp ha => ?_⟩
  have hs' : s.withCommandState s' = s' := by rw [State.withCommandState, hp, hg, hwn, hwp, ha]
  have hc' := hw s'
  rw [hs'] at hc'
  exact hc'.exec_eq (hp ▸ hl)

end Sys2Proof.Machine
end

section
/-! Completions, error codes and the frames of the registers over all commands (60_exceptions.md, sections 1 and 2;
10_state.md, section 2). -/

namespace Sys2Proof.Proofs

open Sys2Proof.Machine Sys2Proof.Safety

/-- Settles O43: the turn answers, and what it answers is IllegalCommand's failure or a completion. -/
theorem oneCompletion : Obligations.OneCompletion := by
  intro s l hb hp
  obtain ⟨t, ht⟩ := engineTurn_completes s
  have hfail (e : ErrorKind) : (s.fail e).err = true ∧ 1 ≤ (s.fail e).ecode.toNat ∧ (s.fail e).ecode.toNat ≤ 5 ∧
      s.fail e = failedWith (s.fail e).ecode s := ⟨rfl, e.code_range.1, e.code_range.2, rfl⟩
  obtain ⟨-, hidle⟩ | ⟨l', -, -, rfl | ⟨i, -, hc⟩⟩ := engineTurn_next ht
  · exact absurd ⟨hb, by simp [hp]⟩ hidle
  · exact ⟨_, ht, rfl, rfl, rfl, .inr (hfail _)⟩
  · obtain ⟨hcc, hbusy, hpend⟩ := hc.idle
    refine ⟨t, ht, hbusy, hpend, hcc, ?_⟩
    obtain hok | ⟨e, rfl⟩ := hc.success_or_fail
    · exact .inl hok
    · exact .inr (hfail e)

/-- Settles O44: a code other than 0 names its error, and `Reports` says which commands report it. -/
theorem codesByCommand : Obligations.CodesByCommand := by
  refine ⟨⟨rfl, rfl, rfl, rfl, rfl⟩, fun i s t h => ?_⟩
  obtain ⟨l, -, hc⟩ := exec_next h
  obtain ⟨herr, hcode⟩ | ⟨e, rfl, hrep⟩ := hc.success_or_reports
  · simp [herr, hcode]
  · have herror {e' : ErrorKind} (hcode : (s.fail e).ecode = e'.code) : e = e' := ErrorKind.code_injective hcode
    refine ⟨⟨fun h0 => absurd h0 e.code_ne_zero, fun h0 => absurd h0 Bool.true_eq_false.mp⟩, fun h1 => ?_, fun h2 => ?_,
      fun h3 => ?_, fun h4 => ?_, fun h5 => ?_, e.code_range.2⟩
    · obtain rfl := herror (e' := .invalidDimension) h1
      cases hrep with
      | dimension n p hn2 hn3 hi => exact ⟨n, p, hn2, hn3, hi⟩
    · obtain rfl := herror (e' := .invalidPrecision) h2
      cases hrep with
      | negative n p hp hi => exact ⟨n, p, .inl ⟨hp, hi⟩⟩
      | tooWide n p hnp hi => exact ⟨n, p, .inr ⟨hnp, hi⟩⟩
    · obtain rfl := herror (e' := .arithmeticOverflow) h3
      cases hrep with
      | overflow n p hnp hi => exact ⟨n, p, hnp, hi⟩
    · obtain rfl := herror (e' := .illegalCommand) h4
      cases hrep
    · obtain rfl := herror (e' := .sequenceError) h5
      cases hrep with
      | sequence hi => exact hi

/-- Settles O45: both completions make the same writes, `exec_writes`; a register that is not written was equal
before. -/
theorem outcomeDependsOnLatch : Obligations.OutcomeDependsOnLatch := by
  intro i s s' t t' hp hg hwn hwp ha h h'
  obtain ⟨w, hw⟩ := exec_writes h
  obtain rfl : t = w.complete s := by simpa [h] using hw s rfl rfl rfl rfl rfl
  obtain rfl : t' = w.complete s' := by simpa [h'] using hw s' hp hg hwn hwp ha
  refine ⟨rfl, rfl, ?_, ?_, ?_, ?_, ?_⟩
  · simp only [Writes.complete, Writes.apply, hg]
  · simp only [Writes.complete, Writes.apply, hwn]
  · simp only [Writes.complete, Writes.apply, hwp]
  · simp only [Writes.complete, Writes.apply, ha]
  · cases hr : w.results with
    | none => exact .inr (by simp only [Writes.complete, Writes.apply, hr, Option.elim_none, and_self])
    | some r => exact .inl (by simp only [Writes.complete, Writes.apply, hr, Option.elim_some, and_self])

/-- Settles O46: `Completion.results_eq`, for `exec` and, by `step_frame`, for a step. -/
theorem resultsFrame : Obligations.ResultsFrame := by
  refine ⟨fun i s t h hi => ?_, fun s t h => ?_⟩
  · obtain ⟨l, -, hc⟩ := exec_next h
    obtain hr | ⟨herr, hprod⟩ := hc.results_eq
    · exact Engine.results_eq_iff.mp hr
    · rw [herr] at hi
      obtain hprod | ⟨n, p, rfl | rfl | rfl⟩ := hprod
      · simp only [List.mem_cons, List.not_mem_nil, or_false] at hprod
        rcases hprod with rfl | rfl | rfl | rfl <;> simp at hi
      all_goals simp at hi
  · obtain hreset | ⟨hr, -⟩ | ⟨l, i, hb, hp, hd, hc⟩ := step_frame h
    · exact .inr (.inl hreset)
    · exact .inl (Engine.results_eq_iff.mp hr)
    · obtain hr | ⟨herr, hprod⟩ := hc.results_eq
      · exact .inl (Engine.results_eq_iff.mp hr)
      · exact .inr (.inr ⟨i, successOf_completion hb hp hd hc herr, hprod⟩)

/-- Settles O47: `step_frame`, and for a completion `gcnt_eq`, `config_eq` and `active_eq`. -/
theorem gcntAndWalkFrame : Obligations.GcntAndWalkFrame := by
  intro s t h
  obtain hreset | ⟨-, hg, ⟨hwn, hwp⟩, ha⟩ | ⟨l, i, hb, hp, hd, hc⟩ := step_frame h
  · exact .inl hreset
  · exact .inr ⟨fun hne => absurd hg hne, fun hne => hne.elim (absurd hwn) (absurd hwp), fun hne => absurd ha hne⟩
  · have hsucc := successOf_completion hb hp hd hc
    refine .inr ⟨fun hne => ?_, fun hne => ?_, fun hne => ?_⟩
    · obtain ⟨herr, hi⟩ := hc.gcnt_eq.resolve_left hne
      exact ⟨i, hsucc herr, hi⟩
    · obtain ⟨herr, n, p, rfl⟩ := hc.config_eq.resolve_left fun hcfg => hne.elim (absurd hcfg.1) (absurd hcfg.2)
      exact ⟨n, p, hsucc herr⟩
    · obtain ⟨herr, hi⟩ := hc.active_eq.resolve_left hne
      exact ⟨i, hsucc herr, hi⟩

/-- Settles O48: only a STATUS write and a completion of WSTART can clear a sticky bit. -/
theorem stickyBits : Obligations.StickyBits := by
  intro s t h
  cases step_effect h with
  | reset ht => exact .inl ht
  | kept ht | enables _ ht | accepted _ ht | operands _ _ _ ht =>
    rw [ht]
    exact .inr ⟨.inl, .inl, .inl, .inl⟩
  | cleared v rest hin ht =>
    rw [ht]
    exact .inr ⟨fun hs => sticky_or_clears hin hs 1, fun hs => (sticky_or_clears hin hs 3).imp_right .inl,
      fun hs => sticky_or_clears hin hs 5, fun hs => sticky_or_clears hin hs 6⟩
  | dropped ht => rw [ht]; exact .inr ⟨.inl, .inl, .inl, fun _ => .inl rfl⟩
  | illegal ht => rw [ht]; exact .inr ⟨fun _ => .inl rfl, .inl, .inl, .inl⟩
  | completed l i hb hp hd hc =>
    obtain ⟨hcc, -⟩ := hc.idle
    refine .inr ⟨fun _ => .inl hcc, fun hs => ?_, fun hs => .inl (hc.wrap_sticky hs), fun hs => .inl (hc.ovr_eq ▸ hs)⟩
    obtain hdone | ⟨herr, n, p, rfl⟩ := hc.done_sticky hs
    · exact .inl hdone
    · exact .inr (.inr ⟨n, p, successOf_completion hb hp hd hc herr⟩)

end Sys2Proof.Proofs
end

section
/-! SUPPORT. The offsets that a register answers, the field of STATUS above bit 7, and the window's offsets
(10_state.md R20, R23; 20_memory.md R63). -/

namespace Sys2Proof.Machine

/-- A register answers exactly the offsets that are a multiple of 4 (10_state.md R20, 20_memory.md R65). -/
theorem regAt_eq_none {off : Offset} : regAt off = none ↔ off.toNat % 4 ≠ 0 := by
  revert off; decide

theorem exists_regAt {off : Offset} (h : off.toNat % 4 = 0) : ∃ r, regAt off = some r :=
  Option.ne_none_iff_exists'.mp (mt regAt_eq_none.mp (not_not_intro h))

theorem accessTarget_width {width : Nat} (h : width ≠ 32) (off : Offset) :
    accessTarget off width = .error (.accessWidth width) :=
  if_pos h

theorem accessTarget_misaligned {off : Offset} (h : off.toNat % 4 ≠ 0) :
    accessTarget off 32 = .error (.misalignedAccess off) := by
  simp only [accessTarget, regAt_eq_none.mpr h, ne_eq, not_true_eq_false, if_false]

/-- An access that reaches no register is refused, read or write (20_memory.md R65). -/
theorem refused_of_accessTarget {off : Offset} {width : Nat} {e : Refusal} (h : accessTarget off width = .error e)
    (v : Word) (s : State) : hostRead off width s = .refused e ∧ hostWrite off width v s = .refused e := by
  simp only [hostRead, hostWrite, h, and_self]

/-- ECODE stands at bits 11:8 of STATUS (10_state.md R23). -/
theorem Engine.statusWord_ecode (e : Engine) : e.statusWord.extractLsb' 8 4 = e.ecode := by
  ext k hk
  simp only [Engine.statusWord, BitVec.getElem_extractLsb', BitVec.getLsbD_append]
  simp [hk]

end Sys2Proof.Machine
end

section
/-! The register window: STATUS, the accesses that are answered, the addresses, and the interrupt level
(10_state.md, sections 2 and 3; 20_memory.md, sections 1 and 2; 60_exceptions.md, section 3). -/

namespace Sys2Proof.Proofs

open Sys2Proof.Machine Sys2Proof.Safety

/-- Settles O32: the reply is `statusWord`. -/
theorem statusFields : Obligations.StatusFields := by
  intro s
  obtain ⟨hbusy, hcc, herr, hdone, hactive, hwrap, hovr, hirq⟩ := s.statusWord_bits
  exact ⟨s.statusWord, hostRead_of_regAt (r := .status) rfl s, hbusy, hcc, herr, hdone, hactive, hwrap, hovr, hirq,
    s.statusWord_ecode, fun k => s.statusWord_reserved⟩

/-- Settles O37: the width, then the alignment, decide what `accessTarget` answers. -/
theorem accessWidthAndAlignment : Obligations.AccessWidthAndAlignment := by
  refine fun s off width v => ⟨?_, fun hw => refused_of_accessTarget (accessTarget_width hw off) v s, ?_⟩
  · rintro ⟨rfl, halign⟩
    obtain ⟨r, hr⟩ := exists_regAt halign
    exact ⟨⟨_, hostRead_of_regAt hr s⟩, ⟨_, hostWrite_of_regAt hr v s⟩⟩
  · rintro ⟨rfl, halign⟩
    exact refused_of_accessTarget (accessTarget_misaligned halign) v s

/-- Settles O38: an offset is below 64, so BASE + off is in the window, and subtracting BASE gives it back. -/
theorem windowAddresses : Obligations.WindowAddresses := by
  refine ⟨Nat.mul_mod_right 64 _, fun off => ⟨rfl, ?_⟩, fun addr off h => ?_, fun addr h => ?_⟩
  · have hoff : off.toNat < 64 := off.isLt
    rw [windowOffset, hostAddress, if_pos ⟨Nat.le_add_right _ _, Nat.add_lt_add_left hoff _⟩, Nat.add_sub_cancel_left,
      BitVec.ofNat_toNat, BitVec.setWidth_eq]
  · unfold windowOffset at h
    split_ifs at h with hin
    obtain rfl := Option.some.inj h
    rw [BitVec.toNat_ofNat]
    omega
  · exact if_neg (by omega)

/-- Settles O40: the level is R31's formula by definition, and STATUS bit 7 reads it. -/
theorem irqLevel : Obligations.IrqLevel :=
  ⟨fun e => ⟨rfl, irqMirrorsSources e⟩, Engine.reset_irq⟩

/-- Settles O41: each of the three clears CC or both enables; a completion sets CC and keeps the enables. -/
theorem irqDeassertion : Obligations.IrqDeassertion := by
  refine ⟨fun s t v hv h => ?status, fun s t v hcie heie h => ?ctrl, fun s t h => ?reset, fun s t l hb hp h => ?turn⟩
  case status =>
    cases (hostWrite_of_regAt (r := .status) rfl v s).symm.trans h
    refine Engine.irq_of_cc_eq_false ?_
    rw [State.regWrite, State.clearStatus_cc, hv, Bool.not_true, Bool.and_false]
  case ctrl =>
    cases (hostWrite_of_regAt (r := .ctrl) rfl v s).symm.trans h
    obtain ⟨-, hw⟩ | ⟨-, hw⟩ := State.writeCtrl_cases v s <;> rw [State.regWrite, hw]
    · exact Engine.reset_irq
    · rw [Engine.irq, State.writeEnables_cie, State.writeEnables_eie, hcie, heie, Bool.false_and, Bool.or_false,
        Bool.and_false]
  case reset =>
    cases h
    exact Engine.reset_irq
  case turn =>
    obtain ⟨hcc, hcie, heie⟩ := engineTurn_pending hb hp h
    rw [Engine.irq, hcc, hcie, heie, Bool.true_and]

end Sys2Proof.Proofs
end

section
/-! SUPPORT. Steps of a schedule: events inside the interface are answered (20_memory.md R65), and reads and operand
writes only change the operand registers, which a pending command does not see (20_memory.md R66, 10_state.md R30). -/

namespace Sys2Proof.Machine

open Sys2Proof.Safety

/-! ### One scheduled event -/

theorem step_of_inputs_nil {s : State} (h : s.inputs = []) : step s = engineTurn s := by
  simp only [step, nextStep, h]

theorem step_of_inputs_cons {s : State} {e : Event} {rest : List Event} (h : s.inputs = e :: rest) :
    step s = takeEvent e { s with inputs := rest } := by
  simp only [step, nextStep, h]

theorem State.regWrite_inputs (r : Reg) (v : Word) (s : State) : (s.regWrite r v).inputs = s.inputs := by
  obtain ⟨-, -, h⟩ | ⟨-, -, h⟩ | ⟨-, h⟩ | ⟨-, -, h⟩ | ⟨-, -, h⟩ | ⟨-, h⟩ | ⟨-, h⟩ | ⟨-, h⟩ | h :=
    State.regWrite_cases r v s
  all_goals rw [h]
  all_goals rfl

theorem engineTurn_inputs {s t : State} (h : engineTurn s = .next t) : t.inputs = s.inputs := by
  obtain ⟨rfl, -⟩ | ⟨l, -, -, rfl | ⟨i, -, hc⟩⟩ := engineTurn_next h
  exacts [rfl, rfl, hc.inputs_eq]

/-- An event inside the interface is answered, and takes no other event off the schedule (20_memory.md R65). -/
theorem takeEvent_legal {e : Event} (h : legalEvent e = true) (s : State) :
    ∃ t, takeEvent e s = .next t ∧ t.inputs = s.inputs := by
  cases e with
  | read off width =>
    obtain ⟨rfl, halign⟩ : width = 32 ∧ off.toNat % 4 = 0 := by simpa [legalEvent] using h
    obtain ⟨r, hr⟩ := exists_regAt halign
    exact ⟨_, hostRead_of_regAt hr s, rfl⟩
  | write off width v =>
    obtain ⟨rfl, halign⟩ : width = 32 ∧ off.toNat % 4 = 0 := by simpa [legalEvent] using h
    obtain ⟨r, hr⟩ := exists_regAt halign
    exact ⟨_, hostWrite_of_regAt hr v s, State.regWrite_inputs r v s⟩
  | reset => exact ⟨_, rfl, rfl⟩
  | engine =>
    obtain ⟨t, ht⟩ := engineTurn_completes s
    exact ⟨t, ht, engineTurn_inputs ht⟩

/-- After an engine's turn nothing is pending (60_exceptions.md R201, R202). -/
theorem engineTurn_idle {s t : State} (hs : BusyMirrorsLatch s.toEngine) (h : engineTurn s = .next t) :
    t.busy = false ∧ t.pend = none := by
  obtain ⟨rfl, hidle⟩ | ⟨l, -, -, rfl | ⟨i, -, hc⟩⟩ := engineTurn_next h
  · have hempty : t.pend = none := by
      rw [← Option.not_isSome_iff_eq_none]
      exact fun hsome => hidle ⟨hs.trans hsome, hsome⟩
    exact ⟨hs.trans (by rw [hempty]; rfl), hempty⟩
  · exact ⟨rfl, rfl⟩
  · exact hc.idle.2

/-- BUSY = (PEND non-empty) is kept on its own, whatever the other invariants (10_state.md R36, item 1). -/
theorem busyMirrorsLatch_kept {s t : State} (hs : BusyMirrorsLatch s.toEngine) (h : step s = .next t) :
    BusyMirrorsLatch t.toEngine := by
  cases step_effect h with
  | kept ht | enables _ ht | cleared _ _ _ ht | dropped ht | operands _ _ _ ht =>
    rw [ht]
    exact hs
  | reset ht => rw [ht.1]; rfl
  | accepted _ ht | illegal ht => rw [ht]; rfl
  | completed l i hb hp hd hc =>
    obtain ⟨-, hidle, hempty⟩ := hc.idle
    rw [BusyMirrorsLatch, hidle, hempty, Option.isSome_none]

/-- Where every scheduled event is legal, one step more than there are events leaves the engine idle. -/
theorem run_completes : ∀ (es : List Event) (s : State), s.inputs = es → (∀ e ∈ es, legalEvent e = true) →
    BusyMirrorsLatch s.toEngine → ∃ t : State, Host.Core.run Sys2Proof.core (es.length + 1) s = .next t ∧
      t.inputs = [] ∧ t.busy = false ∧ t.pend = none
  | [], s, hin, _, hs => by
    obtain ⟨t, ht⟩ := engineTurn_completes s
    exact ⟨t, run_succ ((step_of_inputs_nil hin).trans ht), (engineTurn_inputs ht).trans hin, engineTurn_idle hs ht⟩
  | e :: es, s, hin, hlegal, hs => by
    obtain ⟨he, hes⟩ := List.forall_mem_cons.mp hlegal
    obtain ⟨u, hu, huin⟩ := takeEvent_legal he { s with inputs := es }
    have hstep : step s = .next u := (step_of_inputs_cons hin).trans hu
    obtain ⟨t, hrun, ht⟩ := run_completes es u huin hes (busyMirrorsLatch_kept hs hstep)
    exact ⟨t, (run_succ hstep).trans hrun, ht⟩

/-! ### Quiet events -/

/-- The operand registers changed by `f`, `g` and `h`, and nothing else. -/
def Engine.mapOperands (f g h : Word → Word) (e : Engine) : Engine :=
  { e with opa := f e.opa, opb := g e.opb, opc := h e.opc }

/-- A quiet event changes the operand registers only, the same way in every state (20_memory.md R61,
10_state.md R26). -/
theorem takeEvent_quiet {e : Event} (he : quietEvent e = true) : ∃ f g h : Word → Word, ∀ s, ∃ t,
    takeEvent e s = .next t ∧ t.inputs = s.inputs ∧ t.toEngine = s.toEngine.mapOperands f g h := by
  cases e with
  | read off width =>
    obtain ⟨rfl, halign⟩ : width = 32 ∧ off.toNat % 4 = 0 := by simpa [quietEvent] using he
    obtain ⟨r, hr⟩ := exists_regAt halign
    exact ⟨id, id, id, fun s => ⟨_, hostRead_of_regAt hr s, rfl, rfl⟩⟩
  | write off width v =>
    obtain ⟨rfl, (rfl | rfl) | rfl⟩ : width = 32 ∧ ((off = 0x10#6 ∨ off = 0x14#6) ∨ off = 0x18#6) := by
      simpa [quietEvent] using he
    · exact ⟨fun _ => v, id, id, fun s => ⟨_, hostWrite_of_regAt (off := 0x10#6) (r := .opa) rfl v s, rfl, rfl⟩⟩
    · exact ⟨id, fun _ => v, id, fun s => ⟨_, hostWrite_of_regAt (off := 0x14#6) (r := .opb) rfl v s, rfl, rfl⟩⟩
    · exact ⟨id, id, fun _ => v, fun s => ⟨_, hostWrite_of_regAt (off := 0x18#6) (r := .opc) rfl v s, rfl, rfl⟩⟩
  | reset => exact absurd he Bool.false_ne_true
  | engine => exact absurd he Bool.false_ne_true

/-- A list of quiet events, run in front of any others, changes the operand registers only, the same way in every
state. -/
theorem run_quiet (es : List Event) (hes : ∀ e ∈ es, quietEvent e = true) : ∃ f g h : Word → Word,
    ∀ (s : State) (tail : List Event) (k : Nat), s.inputs = es ++ tail → ∃ t : State,
      Host.Core.run Sys2Proof.core (es.length + k) s = Host.Core.run Sys2Proof.core k t ∧ t.inputs = tail ∧
      t.toEngine = s.toEngine.mapOperands f g h := by
  induction es with
  | nil => exact ⟨id, id, id, fun s tail k hin => ⟨s, by rw [List.length_nil, Nat.zero_add], hin, rfl⟩⟩
  | cons e es ih =>
    obtain ⟨he, hes⟩ := List.forall_mem_cons.mp hes
    obtain ⟨f, g, h, hrest⟩ := ih hes
    obtain ⟨f', g', h', hfirst⟩ := takeEvent_quiet he
    refine ⟨f ∘ f', g ∘ g', h ∘ h', fun s tail k hin => ?_⟩
    obtain ⟨u, hu, huin, hueng⟩ := hfirst { s with inputs := es ++ tail }
    obtain ⟨t, hrun, htin, hteng⟩ := hrest u tail k huin
    refine ⟨t, ?_, htin, by rw [hteng, hueng]; rfl⟩
    rw [List.length_cons, Nat.add_right_comm, run_succ ((step_of_inputs_cons hin).trans hu), hrun]

/-- The completion of a pending command commutes with changes of the operand registers (10_state.md R30). -/
theorem engineTurn_mapOperands {f g h : Word → Word} {s s' t : State} (hb : s.busy = true) (hp : s.pend.isSome)
    (ht : engineTurn s = .next t) (hs' : s'.toEngine = s.toEngine.mapOperands f g h) :
    ∃ t', engineTurn s' = .next t' ∧ t'.toEngine = t.toEngine.mapOperands f g h := by
  obtain ⟨l, hl⟩ := Option.isSome_iff_exists.mp hp
  have hb' : s'.busy = true := by rw [hs']; exact hb
  have hl' : s'.pend = some l := by rw [hs']; exact hl
  rw [engineTurn_completeCommand hb hl, completeCommand] at ht
  rw [engineTurn_completeCommand hb' hl', completeCommand]
  cases hd : decode l.cw with
  | error e =>
    rw [hd] at ht
    cases ht
    refine ⟨_, rfl, ?_⟩
    simp only [State.fail, hs']
    rfl
  | ok i =>
    rw [hd] at ht
    obtain ⟨w, hw⟩ := exec_writes ht
    obtain rfl : t = w.complete s := by simpa [ht] using hw s rfl rfl rfl rfl rfl
    refine ⟨w.complete s', hw s' ?_ ?_ ?_ ?_ ?_, ?_⟩
    all_goals simp only [Writes.complete, hs']
    all_goals rfl

end Sys2Proof.Machine
end

section
/-! Interleaving, latency, progress and reset, step by step (20_memory.md, section 3; 70_reset_and_hazards.md,
sections 1 to 3). -/

namespace Sys2Proof.Proofs

open Sys2Proof.Machine Sys2Proof.Safety

/-- Settles O29: both schedules make the step the engine's turn, which completes the pending word. -/
theorem stepRunsDecoded : Obligations.StepRunsDecoded := by
  intro s l hb hp
  have hturn (rest : List Event) : (∀ i, decode l.cw = .ok i →
        engineTurn { s with inputs := rest } = exec i { s with inputs := rest }) ∧
      ((¬∃ i, decode l.cw = .ok i) →
        engineTurn { s with inputs := rest } = .next (failedWith 4#4 { s with inputs := rest })) :=
    ⟨fun i hd => engineTurn_exec hb hp hd,
      fun hd => (engineTurn_completeCommand (s := { s with inputs := rest }) hb hp).trans
        (completeCommand_illegal hd _)⟩
  refine ⟨fun hin => ?_, fun rest hin => ?_⟩
  · rw [step_of_inputs_nil hin]
    exact hturn s.inputs
  · rw [step_of_inputs_cons hin]
    exact hturn rest

/-- Settles O50: each reset is `resetEngine`, which leaves BUSY = 0, so the turn after it does nothing. -/
theorem resetDiscardsPending : Obligations.ResetDiscardsPending := by
  refine fun s rest => ⟨fun hin => step_of_inputs_cons hin, fun v hv hin => ?_, rfl⟩
  rw [step_of_inputs_cons hin]
  exact (hostWrite_of_regAt (off := 0x04#6) (r := .ctrl) rfl v _).trans (congrArg _ (State.writeCtrl_reset hv _))

/-- Settles O54: `exec_withOperands` for a command, and IllegalCommand's failure reads no operand. -/
theorem operandsAreLatched : Obligations.OperandsAreLatched := by
  intro s t a b c hb hp h
  obtain ⟨l, hl⟩ := Option.isSome_iff_exists.mp hp
  have hb' : (s.withOperands a b c).busy = true := hb
  have hl' : (s.withOperands a b c).pend = some l := hl
  rw [engineTurn_completeCommand hb hl, completeCommand] at h
  refine (engineTurn_completeCommand hb' hl').trans ?_
  rw [completeCommand]
  cases hd : decode l.cw with
  | error e =>
    rw [hd] at h
    cases h
    rfl
  | ok i =>
    rw [hd] at h
    exact exec_withOperands a b c h

/-- Settles O55: by `run_quiet` both runs change the operand registers in the same way, one after and one before the
completion, and `engineTurn_mapOperands` exchanges the two. -/
theorem latencyInvisible : Obligations.LatencyInvisible := by
  intro s es hes hb hp
  obtain ⟨f, g, h, hquiet⟩ := run_quiet es hes
  obtain ⟨c, hc⟩ := engineTurn_completes { s with inputs := es }
  have hcin : c.inputs = es ++ [] := by rw [engineTurn_inputs hc, List.append_nil]
  have hfirst : step { s with inputs := .engine :: es } = .next c :=
    (step_of_inputs_cons (e := .engine) (rest := es) rfl).trans hc
  obtain ⟨t, hrun, -, hteng⟩ := hquiet c [] 0 hcin
  obtain ⟨d, hrun', hdin, hdeng⟩ := hquiet { s with inputs := es ++ [.engine] } [.engine] 1 rfl
  obtain ⟨u, hu, hueng⟩ := engineTurn_mapOperands (s := { s with inputs := es }) (s' := { d with inputs := [] })
    hb hp hc hdeng
  have hlast : step d = .next u := (step_of_inputs_cons hdin).trans hu
  exact ⟨t, u, (run_succ hfirst).trans hrun, hrun'.trans (run_succ hlast), hteng.trans hueng.symm⟩

/-- Settles O56: `run_completes` of the scheduled events. -/
theorem commandsComplete : Obligations.CommandsComplete :=
  fun s hs hlegal => run_completes s.inputs s rfl hlegal hs

end Sys2Proof.Proofs
end

section
/-! SUPPORT. The Gray code bit by bit, its inverse as a parity, and the step from an index to the next
(40_gray.md, section 1). -/

namespace Sys2Proof.Machine

open Sys2Proof.Safety

/-- A word is below 2^m when it has no bit from `m` on. -/
theorem toNat_lt_two_pow_iff {v : Word} {m : Nat} : v.toNat < 2 ^ m ↔ ∀ k, m ≤ k → v.getLsbD k = false := by
  refine ⟨fun h k hk => ?_, fun h => Nat.lt_pow_two_of_testBit _ h⟩
  exact Nat.testBit_lt_two_pow (h.trans_le (Nat.pow_le_pow_right two_pos hk))

/-! ### The code -/

theorem gray_getLsbD (i : Word) (k : Nat) : (gray i).getLsbD k = (i.getLsbD k ^^ i.getLsbD (k + 1)) := by
  rw [gray, BitVec.getLsbD_xor, BitVec.getLsbD_ushiftRight, Nat.add_comm]

/-- The code is linear (40_gray.md R100). -/
theorem gray_xor (i j : Word) : gray (i ^^^ j) = gray i ^^^ gray j := by
  apply BitVec.eq_of_getLsbD_eq
  intro k _
  simp only [gray_getLsbD, BitVec.getLsbD_xor, Bool.xor_left_comm, Bool.xor_assoc]

/-- On natural numbers the code is the same formula, with no width in it (40_gray.md R103). -/
theorem gray_toNat (i : Word) : (gray i).toNat = i.toNat ^^^ (i.toNat / 2) := by
  rw [gray, BitVec.toNat_xor, BitVec.toNat_ushiftRight, Nat.shiftRight_eq_div_pow, Nat.pow_one]

theorem gray_toNat_lt {i : Word} {m : Nat} (h : i.toNat < 2 ^ m) : (gray i).toNat < 2 ^ m := by
  rw [gray_toNat]
  exact Nat.xor_lt_two_pow h ((Nat.div_le_self _ 2).trans_lt h)

/-- A run of 1 bits from bit 0 has a code of one bit, the highest of the run. -/
theorem gray_mask_succ {m : Nat} (hm : m < 32) : gray (mask (m + 1)) = BitVec.twoPow 32 m := by
  apply BitVec.eq_of_getLsbD_eq
  intro k hk
  rw [gray_getLsbD, mask_getLsbD, mask_getLsbD, BitVec.getLsbD_twoPow]
  obtain h | rfl | h := Nat.lt_trichotomy k m
  · simp [show k < 32 by omega, show k + 1 < 32 by omega, show k < m + 1 by omega, h, h.ne']
  · simp [hk]
  · simp [show ¬k < m + 1 by omega, show ¬k + 1 < m + 1 by omega, h.ne]

/-- The bits in which 2^m * 2q + (2^m - 1) and its successor 2^m * (2q + 1) differ: the low `m` and bit `m`. -/
theorem testBit_xor_testBit_succ (m q k : Nat) :
    ((2 ^ m * (2 * q) + (2 ^ m - 1)).testBit k ^^ (2 ^ m * (2 * q + 1) + 0).testBit k) = decide (k < m + 1) := by
  have hpos : 0 < 2 ^ m := Nat.two_pow_pos m
  rw [Nat.testBit_two_pow_mul_add _ (by omega), Nat.testBit_two_pow_mul_add _ hpos]
  obtain h | rfl | h := Nat.lt_trichotomy k m
  · simp [h, Nat.testBit_two_pow_sub_one, show k < m + 1 by omega]
  · simp
  · obtain ⟨d, rfl⟩ := Nat.exists_eq_add_of_lt h
    rw [show m + d + 1 - m = d + 1 by omega]
    simp [Nat.testBit_succ, show (2 * q + 1) / 2 = q by omega, show ¬m + d + 1 < m by omega]

/-- From an index to the next, the bits that change are a run of 1 bits from bit 0. -/
theorem exists_xor_succ_eq_mask {i : Word} (h : i ≠ 0xFFFFFFFF#32) :
    ∃ m < 32, i ^^^ (i + 1#32) = mask (m + 1) := by
  have hlt : i.toNat + 1 < 2 ^ 32 := by
    have hne : i.toNat ≠ 0xFFFFFFFF := fun heq => h (BitVec.eq_of_toNat_eq heq)
    have hi := i.isLt
    omega
  obtain ⟨m, c, ⟨q, rfl⟩, hsucc⟩ := Nat.exists_eq_two_pow_mul_odd (Nat.succ_ne_zero i.toNat)
  have hpos : 0 < 2 ^ m := Nat.two_pow_pos m
  have hi : i.toNat = 2 ^ m * (2 * q) + (2 ^ m - 1) := by
    rw [Nat.mul_add, Nat.mul_one] at hsucc
    omega
  have hi' : (i + 1#32).toNat = 2 ^ m * (2 * q + 1) + 0 := by
    rw [BitVec.toNat_add]
    exact (Nat.mod_eq_of_lt hlt).trans hsucc
  have hm : m < 32 := by
    refine (Nat.pow_lt_pow_iff_right (by decide : 1 < 2)).mp (lt_of_le_of_lt ?_ hlt)
    exact (Nat.le_mul_of_pos_right _ (Nat.succ_pos _)).trans_eq hsucc.symm
  refine ⟨m, hm, BitVec.eq_of_getLsbD_eq fun k hk => ?_⟩
  rw [BitVec.getLsbD_xor, ← BitVec.testBit_toNat, ← BitVec.testBit_toNat, hi, hi', testBit_xor_testBit_succ,
    mask_getLsbD, decide_eq_true hk, Bool.true_and]

/-- Codes of neighbours differ in exactly one bit (40_gray.md R103). -/
theorem exists_gray_xor_gray_succ {i : Word} (h : i ≠ 0xFFFFFFFF#32) :
    ∃ k < 32, gray i ^^^ gray (i + 1#32) = BitVec.twoPow 32 k := by
  obtain ⟨m, hm, hxor⟩ := exists_xor_succ_eq_mask h
  exact ⟨m, hm, by rw [← gray_xor, hxor, gray_mask_succ hm]⟩

/-! ### The inverse -/

/-- `c` bits of `g` from bit `k` on, XORed together: `suffixParity` with the number of bits left free. -/
def parity (g : Word) (k c : Nat) : Bool := (List.range' k c).foldl (fun acc j => acc ^^ g.getLsbD j) false

theorem parity_concat (g : Word) (k c : Nat) : parity g k (c + 1) = (parity g k c ^^ g.getLsbD (k + c)) := by
  rw [parity, List.range'_1_concat, List.foldl_concat]
  rfl

theorem parity_cons (g : Word) (k c : Nat) : parity g k (c + 1) = (g.getLsbD k ^^ parity g (k + 1) c) := by
  induction c with
  | zero => simp [parity]
  | succ c ih => rw [parity_concat, ih, parity_concat, Bool.xor_assoc, show k + (c + 1) = k + 1 + c by omega]

/-- From bit 32 on there is nothing to add. -/
theorem parity_eq_suffixParity {g : Word} {k c : Nat} (h : 32 ≤ k + c) : parity g k c = suffixParity g k := by
  obtain ⟨d, hd⟩ := Nat.exists_eq_add_of_le (show 32 - k ≤ c by omega)
  subst hd
  induction d with
  | zero => rfl
  | succ d ih => rw [← Nat.add_assoc, parity_concat, BitVec.getLsbD_of_ge _ _ (by omega), Bool.xor_false, ih (by omega)]

theorem suffixParity_eq_xor (g : Word) (k : Nat) : suffixParity g k = (g.getLsbD k ^^ suffixParity g (k + 1)) := by
  rw [← parity_eq_suffixParity (c := 32 + 1) (by omega), parity_cons, parity_eq_suffixParity (by omega)]

theorem parity_ushiftRight_one (m : Word) (k c : Nat) : parity (m >>> 1) k c = parity m (k + 1) c := by
  induction c with
  | zero => rfl
  | succ c ih =>
    rw [parity_concat, parity_concat, ih, BitVec.getLsbD_ushiftRight, show 1 + (k + c) = k + 1 + c by omega]

theorem parity_eq_false {g : Word} {k : Nat} (h : ∀ j, k ≤ j → g.getLsbD j = false) (c : Nat) :
    parity g k c = false := by
  induction c with
  | zero => rfl
  | succ c ih => rw [parity_concat, ih, h _ (Nat.le_add_right k c), Bool.xor_false]

/-- A pass adds one more bit of the mask to each bit; a mask of 0 has none left to add (40_gray.md R101). -/
theorem ginvLoop_getLsbD (passes : Nat) (m out : Word) (k : Nat) :
    (ginvLoop passes m out).getLsbD k = (out.getLsbD k ^^ parity m (k + 1) passes) := by
  induction passes generalizing m out with
  | zero => rw [ginvLoop, parity, List.range'_zero, List.foldl_nil, Bool.xor_false]
  | succ passes ih =>
    rw [ginvLoop]
    split_ifs with hm
    · rw [hm, parity_eq_false (fun _ _ => BitVec.getLsbD_zero), Bool.xor_false]
    · rw [ih, parity_ushiftRight_one, parity_cons, BitVec.getLsbD_xor, BitVec.getLsbD_ushiftRight, Bool.xor_assoc,
        Nat.add_comm 1 k]

/-- After 32 passes or more, bit `k` is the parity of the bits from `k` on (40_gray.md R102). -/
theorem ginvLoop_getLsbD_of_ge {passes : Nat} (h : 32 ≤ passes) (g : Word) (k : Nat) :
    (ginvLoop passes g g).getLsbD k = suffixParity g k := by
  rw [ginvLoop_getLsbD, parity_eq_suffixParity (by omega), ← suffixParity_eq_xor]

theorem ginv_getLsbD (g : Word) (k : Nat) : (ginv g).getLsbD k = suffixParity g k := ginvLoop_getLsbD_of_ge le_rfl g k

theorem gray_ginv (g : Word) : gray (ginv g) = g := by
  apply BitVec.eq_of_getLsbD_eq
  intro k _
  rw [gray_getLsbD, ginv_getLsbD, ginv_getLsbD, suffixParity_eq_xor g k, Bool.xor_assoc, Bool.xor_self, Bool.xor_false]

/-- `gray` is onto the finite set of words, by `gray_ginv`, so it is one-to-one. -/
theorem gray_injective : Function.Injective gray :=
  Finite.injective_iff_surjective.mpr fun g => ⟨ginv g, gray_ginv g⟩

theorem ginv_gray (i : Word) : ginv (gray i) = i := gray_injective (gray_ginv (gray i))

/-- The index of a code below 2^m is below 2^m (40_gray.md R103). -/
theorem ginv_toNat_lt {g : Word} {m : Nat} (h : g.toNat < 2 ^ m) : (ginv g).toNat < 2 ^ m := by
  rw [toNat_lt_two_pow_iff] at h ⊢
  intro k hk
  rw [ginv_getLsbD]
  exact parity_eq_false (fun j hj => h j (hk.trans hj)) (32 - k)

end Sys2Proof.Machine
end

section
/-! The Gray code and its inverse (40_gray.md, section 1). -/

namespace Sys2Proof.Proofs

open Sys2Proof.Machine Sys2Proof.Safety

/-- Settles O13: every bound of 32 or more passes gives the parities, `ginvLoop_getLsbD_of_ge`. -/
theorem ginvClosedForm : Obligations.GinvClosedForm := by
  refine fun g => ⟨fun passes hpasses => BitVec.eq_of_getLsbD_eq fun k _ => ?_, fun k _ => ginv_getLsbD g k⟩
  rw [ginvLoop_getLsbD_of_ge hpasses, ginv_getLsbD]

/-- Settles O14: the inverses by `gray_ginv` and counting, the neighbours by `gray_xor` and the run of bits that a step
changes. -/
theorem grayCodeLaws : Obligations.GrayCodeLaws := by
  refine ⟨fun i => ⟨rfl, ?_, fun k _ => gray_getLsbD i k⟩, ginv_gray, gray_ginv, fun i => exists_gray_xor_gray_succ,
    fun i m => gray_toNat_lt, fun i m _ => gray_toNat i⟩
  rw [gray_getLsbD, BitVec.getLsbD_of_ge _ _ le_rfl, Bool.xor_false]

end Sys2Proof.Proofs
end

section
/-! SUPPORT. The steps of the Skilling transform: what they leave, that each undoes itself, and the word-parallel
form of one (41_skilling.md, section 1). -/

namespace Sys2Proof.Machine

open Sys2Proof.Safety

/-! ### What the steps leave -/

theorem mem_skillingSteps {n p r : Nat} : r ∈ List.range' n (n * p - n) ↔ n ≤ r ∧ r < n * p := by
  rw [List.mem_range'_1]
  omega

/-- `skillingStep_getLsbD_pos_high`, by bit weight. -/
theorem skillingStep_getLsbD_of_div_le {n r k : Nat} (hn : 0 < n) (hr : r < 32) (h : r / n ≤ k / n) (u : Word) :
    (skillingStep n u r).getLsbD k = u.getLsbD k := by
  rw [← pos_axis hn (k := k)]
  exact skillingStep_getLsbD_pos_high (axis_lt hn k) hr h u

/-- A step never writes its own control bit (41_skilling.md R133). -/
theorem skillingStep_getLsbD_self {n r : Nat} (hn : 0 < n) (hr : r < 32) (u : Word) :
    (skillingStep n u r).getLsbD r = u.getLsbD r :=
  skillingStep_getLsbD_of_div_le hn hr le_rfl u

/-- Steps at or below the level of bit `k` leave it. -/
theorem foldl_skillingStep_getLsbD {n k : Nat} (hn : 0 < n) {rs : List Nat} (h : ∀ r ∈ rs, r < 32 ∧ r / n ≤ k / n)
    (u : Word) : (rs.foldl (skillingStep n) u).getLsbD k = u.getLsbD k :=
  List.foldlRecOn (motive := fun w : Word => w.getLsbD k = u.getLsbD k) rs _ rfl fun w hw r hr => by
    obtain ⟨hr32, hle⟩ := h r hr
    rw [skillingStep_getLsbD_of_div_le hn hr32 hle, hw]

/-- Before step `r`, its control bit is the input's (41_skilling.md R133). -/
theorem foldl_skillingStep_controlBit {n r : Nat} (hn : 0 < n) (hr : r ≤ 32) (v : Word) :
    ((List.range' n (r - n)).foldl (skillingStep n) v).getLsbD r = v.getLsbD r :=
  foldl_skillingStep_getLsbD hn (fun j hj => by
    have hjr : j < r := by rw [List.mem_range'_1] at hj; omega
    exact ⟨hjr.trans_le hr, Nat.div_le_div_right hjr.le⟩) v

/-- The transform of a pair leaves the bits of the top level and all above (41_skilling.md R133). -/
theorem skilling_getLsbD_high {n p k : Nat} (h : ValidPair n p) (hk : n * p - n ≤ k) (v : Word) :
    (skilling v n p).getLsbD k = v.getLsbD k := by
  have hn := validPair_dimension_pos h
  refine foldl_skillingStep_getLsbD hn (fun r hr => ?_) v
  obtain ⟨-, hrN⟩ := mem_skillingSteps.mp hr
  have hlevel : r / n < p := (Nat.div_lt_iff_lt_mul hn).mpr (hrN.trans_eq (Nat.mul_comm n p))
  have htop : p - 1 ≤ k / n := by
    rw [Nat.le_div_iff_mul_le hn, Nat.sub_mul, Nat.one_mul, Nat.mul_comm p n]
    exact hk
  exact ⟨hrN.trans_le h.2, (Nat.le_sub_one_of_lt hlevel).trans htop⟩

/-! ### The inverse -/

/-- The exchange of axis 0 and the axis of `r` stays among the n axes. -/
theorem swap_axis_lt {n a : Nat} (ha : a < n) (r : Nat) : Equiv.swap 0 (axis n r) a < n := by
  have hn : 0 < n := Nat.zero_lt_of_lt ha
  rw [Equiv.swap_apply_def]
  split_ifs
  exacts [axis_lt hn r, hn, ha]

/-- A step undoes itself: its control bit is still the same, and both its operations are involutions
(41_skilling.md R134). -/
theorem skillingStep_skillingStep {n r : Nat} (hn : 0 < n) (hr : r < 32) (u : Word) :
    skillingStep n (skillingStep n u r) r = u := by
  refine eq_of_lanes hn fun L a ha => ?_
  have hself := skillingStep_getLsbD_self hn hr u
  by_cases hL : L < r / n
  · cases hbit : u.getLsbD r with
    | true =>
      rw [skillingStep_getLsbD_pos_one ha hr hL (hself.trans hbit), skillingStep_getLsbD_pos_one ha hr hL hbit,
        Bool.xor_assoc, Bool.xor_self, Bool.xor_false]
    | false =>
      rw [skillingStep_getLsbD_pos_zero ha hr hL (hself.trans hbit),
        skillingStep_getLsbD_pos_zero (swap_axis_lt ha r) hr hL hbit, Equiv.swap_apply_self]
  · rw [skillingStep_getLsbD_pos_high ha hr (not_lt.mp hL), skillingStep_getLsbD_pos_high ha hr (not_lt.mp hL)]

/-- The steps in the other order undo the steps (41_skilling.md R134). -/
theorem foldl_reverse_foldl_skillingStep {n : Nat} (hn : 0 < n) {rs : List Nat} (h : ∀ r ∈ rs, r < 32) (u : Word) :
    rs.reverse.foldl (skillingStep n) (rs.foldl (skillingStep n) u) = u := by
  induction rs generalizing u with
  | nil => rfl
  | cons r rs ih =>
    obtain ⟨hr, hrs⟩ := List.forall_mem_cons.mp h
    rw [List.reverse_cons, List.foldl_concat, List.foldl_cons, ih hrs, skillingStep_skillingStep hn hr]

theorem lt_of_mem_skillingSteps {n p : Nat} (h : ValidPair n p) : ∀ r ∈ List.range' n (n * p - n), r < 32 :=
  fun _ hr => (mem_skillingSteps.mp hr).2.trans_le h.2

theorem skillingInverse_skilling {n p : Nat} (h : ValidPair n p) (v : Word) :
    skillingInverse (skilling v n p) n p = v :=
  foldl_reverse_foldl_skillingStep (validPair_dimension_pos h) (lt_of_mem_skillingSteps h) v

theorem skilling_skillingInverse {n p : Nat} (h : ValidPair n p) (v : Word) :
    skilling (skillingInverse v n p) n p = v := by
  have hinv := foldl_reverse_foldl_skillingStep (validPair_dimension_pos h) (rs := (List.range' n (n * p - n)).reverse)
    (fun r hr => lt_of_mem_skillingSteps h r (List.mem_reverse.mp hr)) v
  rwa [List.reverse_reverse] at hinv

theorem skilling_toNat_lt {n p : Nat} (h : ValidPair n p) {v : Word} (hv : v.toNat < 2 ^ (n * p)) :
    (skilling v n p).toNat < 2 ^ (n * p) := by
  rw [toNat_lt_two_pow_iff] at hv ⊢
  intro k hk
  rw [skilling_getLsbD_high h ((Nat.sub_le _ _).trans hk), hv k hk]

theorem skillingInverse_toNat_lt {n p : Nat} (h : ValidPair n p) {v : Word} (hv : v.toNat < 2 ^ (n * p)) :
    (skillingInverse v n p).toNat < 2 ^ (n * p) := by
  rw [toNat_lt_two_pow_iff] at hv ⊢
  intro k hk
  rw [← skilling_getLsbD_high h ((Nat.sub_le _ _).trans hk), skilling_skillingInverse h, hv k hk]

/-! ### The word-parallel form -/

theorem laneMask_succ (n p : Nat) : laneMask n (p + 1) = laneMask n p ||| bit (pos n p 0) := by
  simp only [laneMask, List.range_succ, List.foldl_append, List.foldl_cons, List.foldl_nil]

/-- The lane mask has the axis-0 bits of the p levels (41_skilling.md R135). -/
theorem laneMask_getLsbD {n p : Nat} (hn : 0 < n) (hp : n * p ≤ 32) (k : Nat) :
    (laneMask n p).getLsbD k = decide (k / n < p ∧ axis n k = 0) := by
  induction p with
  | zero => simp [laneMask]
  | succ p ih =>
    have hpos : pos n p 0 < 32 := (pos_lt hn (Nat.lt_succ_self p)).trans_le hp
    have hbit : (decide (k < 32) && decide (k = pos n p 0)) = decide (k / n = p ∧ axis n k = 0) := by
      rw [← Bool.decide_and, decide_eq_decide, ← pos_eq_pos_iff (axis_lt hn k) hn, pos_axis hn]
      exact ⟨And.right, fun h => ⟨h ▸ hpos, h⟩⟩
    rw [laneMask_succ, BitVec.getLsbD_or, ih ((Nat.mul_le_mul_left n p.le_succ).trans hp), bit_getLsbD, hbit,
      ← Bool.decide_or, decide_eq_decide, ← or_and_right, Nat.lt_succ_iff_lt_or_eq]

/-- The two constants of R135 are the axis-0 lanes of a whole word. -/
theorem laneConstant_getLsbD {n k : Nat} (hn : n = 2 ∨ n = 3) (hk : k < 32) :
    (if n = 2 then 0xAAAAAAAA#32 else 0x24924924#32).getLsbD k = decide (axis n k = 0) := by
  rcases hn with rfl | rfl <;> revert k <;> decide

/-- The lanes that a step works on: axis 0 below the level of `r` (41_skilling.md R135). -/
def lowLanes (n p r : Nat) : Word := laneMask n p &&& mask (r / n * n)

theorem lowLanes_getLsbD {n p r : Nat} (hn : 0 < n) (hp : n * p ≤ 32) (hr : r < n * p) (k : Nat) :
    (lowLanes n p r).getLsbD k = decide (k / n < r / n ∧ axis n k = 0) := by
  have hrp : r / n < p := (Nat.div_lt_iff_lt_mul hn).mpr (hr.trans_eq (Nat.mul_comm n p))
  have hr32 : r / n * n < 32 := (Nat.div_mul_le_self r n).trans_lt (hr.trans_le hp)
  rw [lowLanes, BitVec.getLsbD_and, laneMask_getLsbD hn hp, mask_getLsbD, ← Bool.decide_and, ← Bool.decide_and,
    decide_eq_decide, ← Nat.div_lt_iff_lt_mul hn]
  have hlevel : k / n < r / n → k < 32 := fun h => ((Nat.div_lt_iff_lt_mul hn).mp h).trans hr32
  constructor
  · rintro ⟨⟨-, ha⟩, -, h⟩
    exact ⟨h, ha⟩
  · rintro ⟨h, ha⟩
    exact ⟨⟨h.trans hrp, ha⟩, hlevel h, h⟩

/-- `d` bits above the lane of axis `a` there is an axis-0 lane of the same level only if `a` is `d`. -/
theorem pos_add_axis_zero {n L a d : Nat} (ha : a < n) (hd : d < n) :
    axis n (pos n L a + d) = 0 ↔ a = d := by
  obtain h | h := lt_or_ge a d
  · have hpos : pos n L a + d = pos n (L + 1) (n + a - d) := by
      unfold pos
      rw [Nat.add_mul]
      omega
    rw [hpos, axis_pos (by omega)]
    omega
  · have hpos : pos n L a + d = pos n L (a - d) := by
      unfold pos
      omega
    rw [hpos, axis_pos (by omega)]
    omega

theorem pos_self_add {n L d : Nat} (hd : d < n) : pos n L d + d = pos n L 0 := by
  unfold pos
  omega

/-- The lanes of `lowLanes` at the lane of axis `a`. -/
theorem lowLanes_getLsbD_pos {n p r L a : Nat} (hp : n * p ≤ 32) (hr : r < n * p) (ha : a < n) :
    (lowLanes n p r).getLsbD (pos n L a) = decide (L < r / n ∧ a = 0) := by
  rw [lowLanes_getLsbD (Nat.zero_lt_of_lt ha) hp hr, pos_div (Nat.zero_lt_of_lt ha), axis_pos ha]

/-- The lanes of `lowLanes`, `d` bits above the lane of axis `a`. -/
theorem lowLanes_getLsbD_pos_add {n p r L a d : Nat} (hp : n * p ≤ 32) (hr : r < n * p) (ha : a < n) (hd : d < n) :
    (lowLanes n p r).getLsbD (pos n L a + d) = decide (L < r / n ∧ a = d) := by
  have hn : 0 < n := Nat.zero_lt_of_lt ha
  rw [lowLanes_getLsbD hn hp hr, decide_eq_decide, pos_add_axis_zero ha hd]
  refine and_congr_left fun had => ?_
  rw [had, pos_self_add hd, pos_div hn]

/-- The bits of the exchange word: where a lane of axis 0 and the lane `d` bits below it differ
(41_skilling.md R135). -/
def exchangeWord (lo u : Word) (d : Nat) : Word := (u ^^^ (u <<< d)) &&& lo

theorem exchangeWord_getLsbD_of_lo {lo : Word} {k : Nat} (h : lo.getLsbD k = false) (u : Word) (d : Nat) :
    (exchangeWord lo u d).getLsbD k = false := by
  rw [exchangeWord, BitVec.getLsbD_and, h, Bool.and_false]

theorem exchangeWord_getLsbD_pos_zero {n p r L d : Nat} (hp : n * p ≤ 32) (hr : r < n * p) (hL : L < r / n)
    (hd : d < n) (u : Word) :
    (exchangeWord (lowLanes n p r) u d).getLsbD (pos n L 0) = (u.getLsbD (pos n L 0) ^^ u.getLsbD (pos n L d)) := by
  have hn : 0 < n := Nat.zero_lt_of_lt hd
  have hpos : pos n L 0 < 32 := (pos_lt hn hL).trans_le ((Nat.mul_div_le r n).trans (hr.le.trans hp))
  have hlo : (lowLanes n p r).getLsbD (pos n L 0) = true := by
    rw [lowLanes_getLsbD_pos hp hr hn, decide_eq_true ⟨hL, rfl⟩]
  have hsub : pos n L 0 - d = pos n L d := by rw [← pos_self_add hd, Nat.add_sub_cancel]
  have hle : ¬pos n L 0 < d := by rw [← pos_self_add hd]; omega
  rw [exchangeWord, BitVec.getLsbD_and, BitVec.getLsbD_xor, BitVec.getLsbD_shiftLeft, hsub, decide_eq_true hpos,
    decide_eq_false hle, hlo, Bool.not_false, Bool.true_and, Bool.true_and, Bool.and_true]

theorem exchangeWord_getLsbD_pos {n p r L a d : Nat} (hp : n * p ≤ 32) (hr : r < n * p) (hL : L < r / n) (ha : a < n)
    (hd : d < n) (u : Word) : (exchangeWord (lowLanes n p r) u d).getLsbD (pos n L a) =
      (decide (a = 0) && (u.getLsbD (pos n L 0) ^^ u.getLsbD (pos n L d))) := by
  by_cases ha0 : a = 0
  · rw [ha0, exchangeWord_getLsbD_pos_zero hp hr hL hd, decide_eq_true rfl, Bool.true_and]
  · rw [exchangeWord_getLsbD_of_lo, decide_eq_false ha0, Bool.false_and]
    rw [lowLanes_getLsbD_pos hp hr ha, decide_eq_false fun h => ha0 h.2]

theorem exchangeWord_getLsbD_pos_add {n p r L a d : Nat} (hp : n * p ≤ 32) (hr : r < n * p) (hL : L < r / n)
    (ha : a < n) (hd : d < n) (u : Word) : (exchangeWord (lowLanes n p r) u d).getLsbD (pos n L a + d) =
      (decide (a = d) && (u.getLsbD (pos n L 0) ^^ u.getLsbD (pos n L d))) := by
  by_cases had : a = d
  · rw [had, pos_self_add hd, exchangeWord_getLsbD_pos_zero hp hr hL hd, decide_eq_true rfl, Bool.true_and]
  · rw [exchangeWord_getLsbD_of_lo, decide_eq_false had, Bool.false_and]
    rw [lowLanes_getLsbD_pos_add hp hr ha hd, decide_eq_false fun h => had h.2]

theorem parallelStep_one {n p r : Nat} {c : Word} (hc : c.getLsbD r = true) (u : Word) :
    parallelStep n p c u r = u ^^^ lowLanes n p r :=
  if_pos hc

theorem parallelStep_zero {n p r : Nat} {c : Word} (hc : c.getLsbD r = false) (u : Word) :
    parallelStep n p c u r = u ^^^ exchangeWord (lowLanes n p r) u (axis n r) ^^^
      (exchangeWord (lowLanes n p r) u (axis n r) >>> axis n r) :=
  if_neg (Bool.eq_false_iff.mp hc)

/-- Adding the difference of two bits to both of them exchanges them. -/
theorem xor_difference_eq_swap (f : Nat → Bool) (d a : Nat) :
    (f a ^^ (decide (a = 0) && (f 0 ^^ f d)) ^^ (decide (a = d) && (f 0 ^^ f d))) = f (Equiv.swap 0 d a) := by
  by_cases ha0 : a = 0
  · rw [ha0, Equiv.swap_apply_left]
    by_cases hd : 0 = d
    · simp [← hd]
    · simp [hd]
  · by_cases had : a = d
    · rw [had, Equiv.swap_apply_right]
      simp [had ▸ ha0, Bool.xor_left_comm (f d)]
    · rw [Equiv.swap_apply_of_ne_of_ne ha0 had]
      simp [ha0, had]

/-- Steered by the control bit that the word still has, the word-parallel step is the bit-serial one
(41_skilling.md R135). -/
theorem parallelStep_eq_skillingStep {n p r : Nat} (h : ValidPair n p) (hr : r < n * p) {c u : Word}
    (hc : c.getLsbD r = u.getLsbD r) : parallelStep n p c u r = skillingStep n u r := by
  have hn := validPair_dimension_pos h
  have hr32 : r < 32 := hr.trans_le h.2
  have hd : axis n r < n := axis_lt hn r
  refine eq_of_lanes hn fun L a ha => ?_
  by_cases hL : L < r / n
  · cases hbit : u.getLsbD r with
    | true =>
      rw [parallelStep_one (hc.trans hbit), skillingStep_getLsbD_pos_one ha hr32 hL hbit, BitVec.getLsbD_xor,
        lowLanes_getLsbD_pos h.2 hr ha]
      simp only [hL, true_and]
    | false =>
      rw [parallelStep_zero (hc.trans hbit), skillingStep_getLsbD_pos_zero ha hr32 hL hbit, BitVec.getLsbD_xor,
        BitVec.getLsbD_xor, BitVec.getLsbD_ushiftRight, Nat.add_comm (axis n r),
        exchangeWord_getLsbD_pos h.2 hr hL ha hd, exchangeWord_getLsbD_pos_add h.2 hr hL ha hd]
      exact xor_difference_eq_swap (fun b => u.getLsbD (pos n L b)) (axis n r) a
  · have hlo : (lowLanes n p r).getLsbD (pos n L a) = false := by
      rw [lowLanes_getLsbD_pos h.2 hr ha, decide_eq_false fun hlow => hL hlow.1]
    have hlo' : (lowLanes n p r).getLsbD (pos n L a + axis n r) = false := by
      rw [lowLanes_getLsbD_pos_add h.2 hr ha hd, decide_eq_false fun hlow => hL hlow.1]
    rw [skillingStep_getLsbD_pos_high ha hr32 (not_lt.mp hL)]
    cases hbit : u.getLsbD r with
    | true => rw [parallelStep_one (hc.trans hbit), BitVec.getLsbD_xor, hlo, Bool.xor_false]
    | false =>
      rw [parallelStep_zero (hc.trans hbit), BitVec.getLsbD_xor, BitVec.getLsbD_xor, BitVec.getLsbD_ushiftRight,
        Nat.add_comm (axis n r), exchangeWord_getLsbD_of_lo hlo, exchangeWord_getLsbD_of_lo hlo', Bool.xor_false,
        Bool.xor_false]

theorem foldl_parallelStep {n p m : Nat} (h : ValidPair n p) (hm : n + m ≤ n * p) (v : Word) :
    (List.range' n m).foldl (parallelStep n p v) v = (List.range' n m).foldl (skillingStep n) v := by
  induction m with
  | zero => rfl
  | succ m ih =>
    have hcontrol := foldl_skillingStep_controlBit (r := n + m) (validPair_dimension_pos h)
      ((Nat.le_of_succ_le hm).trans h.2) v
    rw [Nat.add_sub_cancel_left] at hcontrol
    rw [List.range'_1_concat, List.foldl_concat, List.foldl_concat, ih (Nat.le_of_succ_le hm),
      parallelStep_eq_skillingStep (r := n + m) h hm hcontrol.symm]

end Sys2Proof.Machine
end

section
/-! The laws of the Skilling transform (41_skilling.md, section 1). -/

namespace Sys2Proof.Proofs

open Sys2Proof.Machine Sys2Proof.Safety

/-- Settles O16: every step undoes itself, so the descending order undoes the ascending one, and no step writes a bit
above the layout. -/
theorem skillingPermutation : Obligations.SkillingPermutation :=
  fun _ _ v h hv => ⟨skilling_toNat_lt h hv, skillingInverse_toNat_lt h hv, skillingInverse_skilling h v,
    skilling_skillingInverse h v⟩

/-- Settles O17: a step writes only levels below its own bit's. -/
theorem skillingControlBits : Obligations.SkillingControlBits :=
  fun _ _ v h => ⟨fun _ _ hr => foldl_skillingStep_controlBit (validPair_dimension_pos h) (hr.le.trans h.2) v,
    fun _ hk _ => skilling_getLsbD_high h hk v⟩

/-- Settles O18: the mask bit by bit, and the steps one by one, by `parallelStep_eq_skillingStep`. -/
theorem skillingWordParallel : Obligations.SkillingWordParallel := by
  intro n p h
  have hn := validPair_dimension_pos h
  refine ⟨BitVec.eq_of_getLsbD_eq fun k hk => ?_, fun v _ => ?_⟩
  · rw [laneMask_getLsbD hn h.2, BitVec.getLsbD_and, laneConstant_getLsbD h.1 hk, mask_getLsbD, decide_eq_true hk,
      Bool.true_and, ← Bool.decide_and, decide_eq_decide, Nat.div_lt_iff_lt_mul hn, Nat.mul_comm p n, and_comm]
  · obtain hp | hp := le_or_gt n (n * p)
    · exact foldl_parallelStep h (by omega) v
    · rw [skillingParallel, skilling, Nat.sub_eq_zero_of_le hp.le]
      rfl

end Sys2Proof.Proofs
end

section
/-! SUPPORT. An index is its coordinates, the encoding of WSTART is a word of that command, and the walk's indices are
the codes of a permutation (42_codec.md, section 1; 43_walk.md, section 2). -/

namespace Sys2Proof.Machine

open Sys2Proof.Safety

/-! ### The codec -/

/-- A lane position lies inside the layout exactly where its level does. -/
theorem level_lt_of_pos_lt {n L a p : Nat} (ha : a < n) (h : pos n L a < n * p) : L < p := by
  have hn : 0 < n := Nat.zero_lt_of_lt ha
  rw [← pos_div (L := L) (a := a) hn]
  exact (Nat.div_lt_iff_lt_mul hn).mpr (h.trans_eq (Nat.mul_comm n p))

theorem decodeAxis_toNat_lt {p : Nat} (hp : p ≤ 32) (v : Word) (n a : Nat) : (decodeAxis v n p a).toNat < 2 ^ p := by
  rw [toNat_lt_two_pow_iff]
  intro L hL
  rw [decodeAxis_getLsbD hp, decide_eq_false (not_lt.mpr hL), Bool.false_and]

/-- Coordinate `a` depends on the lane of axis `a` below level `p` alone (42_codec.md R160). -/
theorem decodeAxis_congr {n p a : Nat} (hp : p ≤ 32) {u w : Word}
    (h : ∀ L < p, u.getLsbD (pos n L a) = w.getLsbD (pos n L a)) : decodeAxis u n p a = decodeAxis w n p a := by
  refine BitVec.eq_of_getLsbD_eq fun L _ => ?_
  rw [decodeAxis_getLsbD hp, decodeAxis_getLsbD hp]
  by_cases hL : L < p
  · rw [h L hL]
  · rw [decide_eq_false hL, Bool.false_and, Bool.false_and]

/-- Indices below 2^N with the same coordinates are the same (42_codec.md R163). -/
theorem eq_of_decodeAxis_eq {n p : Nat} (h : ValidPair n p) {x y : Word} (hx : x.toNat < 2 ^ (n * p))
    (hy : y.toNat < 2 ^ (n * p)) (hxy : ∀ a < n, decodeAxis x n p a = decodeAxis y n p a) : x = y := by
  have hp := validPair_precision_le h
  rw [toNat_lt_two_pow_iff] at hx hy
  refine eq_of_lanes (validPair_dimension_pos h) fun L a ha => ?_
  by_cases hL : L < p
  · have hbit := congrArg (·.getLsbD L) (hxy a ha)
    simpa only [decodeAxis_getLsbD hp, decide_eq_true hL, Bool.true_and] using hbit
  · have hhigh : n * p ≤ pos n L a := not_lt.mp fun hpos => hL (level_lt_of_pos_lt ha hpos)
    rw [hx _ hhigh, hy _ hhigh]

/-- Coordinate `a` of the encoding is the coordinate that was put in (42_codec.md R163). -/
theorem decodeAxis_encodeCoords {n p a : Nat} (h : ValidPair n p) (ha : a < n) {c0 c1 c2 : Word}
    (hc : (if a = 0 then c0 else if a = 1 then c1 else c2).toNat < 2 ^ p) :
    decodeAxis (encodeCoords c0 c1 c2 n p) n p a = if a = 0 then c0 else if a = 1 then c1 else c2 := by
  refine BitVec.eq_of_getLsbD_eq fun L _ => ?_
  rw [decodeAxis_getLsbD (validPair_precision_le h), encodeCoords_getLsbD_pos h ha]
  by_cases hL : L < p
  · rw [decide_eq_true hL, Bool.true_and, Bool.true_and]
  · rw [decide_eq_false hL, Bool.false_and, toNat_lt_two_pow_iff.mp hc L (not_lt.mp hL)]

/-- The coordinate of one of at most three axes, chosen by cases. -/
theorem ite_decodeAxis {n p a : Nat} (h : ValidPair n p) (ha : a < n) (x : Word) :
    (if a = 0 then decodeAxis x n p 0 else if a = 1 then decodeAxis x n p 1 else decodeAxis x n p 2) =
      decodeAxis x n p a := by
  obtain ⟨hn, -⟩ := h
  obtain rfl | rfl | rfl : a = 0 ∨ a = 1 ∨ a = 2 := by omega
  all_goals rfl

theorem encodeCoords_decodeAxis {n p : Nat} (h : ValidPair n p) {x : Word} (hx : x.toNat < 2 ^ (n * p)) :
    encodeCoords (decodeAxis x n p 0) (decodeAxis x n p 1) (decodeAxis x n p 2) n p = x := by
  refine eq_of_decodeAxis_eq h (encodeCoords_toNat_lt h _ _ _) hx fun a ha => ?_
  have hcoord := ite_decodeAxis h ha x
  rw [decodeAxis_encodeCoords h ha, hcoord]
  rw [hcoord]
  exact decodeAxis_toNat_lt (validPair_precision_le h) x n a

/-! ### The walk -/

/-- A valid pair fits the bytes of a command word (30_encoding.md R82). -/
theorem wellFormed_wstart {n p : Nat} (h : ValidPair n p) : (Instr.wstart n p).wellFormed = true := by
  obtain ⟨hn, hnp⟩ := h
  have hp : p ≤ 16 := by rcases hn with rfl | rfl <;> omega
  rw [Instr.wellFormed, Bool.and_eq_true, fitsField_iff, fitsField_iff]
  omega

theorem skillingStep_zero {n r : Nat} (hn : 0 < n) (hr : r < 32) : skillingStep n 0#32 r = 0#32 := by
  refine eq_of_lanes hn fun L a ha => ?_
  by_cases hL : L < r / n
  · rw [skillingStep_getLsbD_pos_zero ha hr hL BitVec.getLsbD_zero, BitVec.getLsbD_zero, BitVec.getLsbD_zero]
  · exact skillingStep_getLsbD_pos_high ha hr (not_lt.mp hL) _

theorem skilling_zero {n p : Nat} (h : ValidPair n p) : skilling 0#32 n p = 0#32 :=
  List.foldlRecOn (motive := (· = 0#32)) _ _ rfl fun u hu r hr => by
    rw [hu, skillingStep_zero (validPair_dimension_pos h) (lt_of_mem_skillingSteps h r hr)]

theorem decodeAxis_of_zero {p : Nat} (hp : p ≤ 32) (n a : Nat) : decodeAxis 0#32 n p a = 0#32 := by
  refine BitVec.eq_of_getLsbD_eq fun L _ => ?_
  rw [decodeAxis_getLsbD hp, BitVec.getLsbD_zero, BitVec.getLsbD_zero, Bool.and_false]

/-- An index of a walk is a word (00_scope.md R6). -/
theorem walk_index_lt {n p k : Nat} (h : ValidPair n p) (hk : k < 2 ^ (n * p)) : k < 2 ^ 32 :=
  hk.trans_le (Nat.pow_le_pow_right two_pos h.2)

theorem toNat_ofNat_index {n p k : Nat} (h : ValidPair n p) (hk : k < 2 ^ (n * p)) : (BitVec.ofNat 32 k).toNat = k := by
  rw [BitVec.toNat_ofNat, Nat.mod_eq_of_lt (walk_index_lt h hk)]

theorem walkIndex_toNat_lt {n p k : Nat} (h : ValidPair n p) (hk : k < 2 ^ (n * p)) :
    (walkIndex (BitVec.ofNat 32 k) n p).toNat < 2 ^ (n * p) :=
  skilling_toNat_lt h (gray_toNat_lt (by rwa [toNat_ofNat_index h hk]))

/-- Different steps have different indices: the code and the transform are both one-to-one (43_walk.md R184, item 3). -/
theorem walkIndex_injOn {n p k k' : Nat} (h : ValidPair n p) (hk : k < 2 ^ (n * p)) (hk' : k' < 2 ^ (n * p))
    (heq : walkIndex (BitVec.ofNat 32 k) n p = walkIndex (BitVec.ofNat 32 k') n p) : k = k' := by
  have hskil := congrArg (skillingInverse · n p) heq
  simp only [walkIndex, skillingInverse_skilling h] at hskil
  have hindex := congrArg BitVec.toNat (gray_injective hskil)
  rwa [toNat_ofNat_index h hk, toNat_ofNat_index h hk'] at hindex

/-- Every index below 2^N is the index of a step: undo the transform, then the code. -/
theorem exists_walkIndex_eq {n p : Nat} (h : ValidPair n p) {x : Word} (hx : x.toNat < 2 ^ (n * p)) :
    ∃ k < 2 ^ (n * p), walkIndex (BitVec.ofNat 32 k) n p = x := by
  refine ⟨(ginv (skillingInverse x n p)).toNat, ginv_toNat_lt (skillingInverse_toNat_lt h hx), ?_⟩
  rw [BitVec.ofNat_toNat, BitVec.setWidth_eq, walkIndex, gray_ginv, skilling_skillingInverse h]

end Sys2Proof.Machine
end

section
/-! The round trip of the codec and the walk's sequence of vertices (42_codec.md, section 1; 43_walk.md, section 2). -/

namespace Sys2Proof.Proofs

open Sys2Proof.Machine Sys2Proof.Safety

/-- Settles O21: `decodeAxis_encodeCoords` axis by axis, and an index is determined by its coordinates. -/
theorem codecRoundTrip : Obligations.CodecRoundTrip := by
  refine fun n p h => ⟨fun c0 c1 c2 h0 h1 h2 => ⟨?_, ?_, ?_⟩, fun x hx => encodeCoords_decodeAxis h hx⟩
  · exact decodeAxis_encodeCoords (a := 0) h (validPair_dimension_pos h) h0
  · exact decodeAxis_encodeCoords (a := 1) h (by omega) h1
  · rintro rfl
    exact decodeAxis_encodeCoords (a := 2) h (by decide) h2

/-- Settles O57: WSTART puts the engine at vertex 0, `runWsteps_reaches` leads to vertex k, `runWsteps_shows` gives
it. -/
theorem walkProducesVertices : Obligations.WalkProducesVertices := by
  intro s n p k hb h hk
  obtain ⟨s0, hstart, -, hs0⟩ := run_wstart hb (decodeOfEncode _ (wellFormed_wstart h)) h
  obtain ⟨u, hrun, hu⟩ := hs0.runWsteps_reaches h hk
  obtain ⟨t, hrun', hshow, hdone, hnext⟩ := hs0.runWsteps_shows h hk
  exact ⟨s0, u, t, hstart, hrun, hu.gcnt, hu.active, hrun', hshow.err, hshow.res0, hshow.res1, hshow.res2, hshow.res3,
    fun hlast => ⟨(hdone hlast).done, (hdone hlast).active, (hdone hlast).gcnt⟩,
    fun hmore => ⟨(hnext hmore).done, (hnext hmore).active⟩⟩

/-- Settles O58: the indices of the steps are a permutation, and an index is its coordinates. -/
theorem walkVisitsEveryCell : Obligations.WalkVisitsEveryCell := by
  intro n p h
  have hp := validPair_precision_le h
  refine ⟨fun a _ => ?origin, fun k a _ _ => decodeAxis_toNat_lt hp _ n a, fun k k' hk hk' heq => ?distinct,
    fun c0 c1 c2 h0 h1 h2 => ?every⟩
  case origin =>
    have hgray : gray (BitVec.ofNat 32 0) = 0#32 := rfl
    rw [walkVertex, hgray, skilling_zero h, decodeAxis_of_zero hp]
  case distinct =>
    exact walkIndex_injOn h hk hk' (eq_of_decodeAxis_eq h (walkIndex_toNat_lt h hk) (walkIndex_toNat_lt h hk') heq)
  case every =>
    obtain ⟨hround, -⟩ := codecRoundTrip n p h
    obtain ⟨k, hk, hindex⟩ := exists_walkIndex_eq h (encodeCoords_toNat_lt h c0 c1 c2)
    have hvertex (a : Nat) : walkVertex n p k a = decodeAxis (encodeCoords c0 c1 c2 n p) n p a :=
      congrArg (decodeAxis · n p a) hindex
    refine ⟨k, hk, ?_⟩
    rw [hvertex, hvertex, hvertex]
    exact hround c0 c1 c2 h0 h1 h2

end Sys2Proof.Proofs
end

section
/-! SUPPORT. Why consecutive vertices of a walk are neighbours (43_walk.md R184, item 4), by induction on the precision.

The transform at p + 1 levels is the transform at p levels followed by the n steps of the top level, which act on the
grid of the low p levels as a reflection or an exchange of axes each. The code of k is, below the top level, the code of
k's low part, read backwards where the top digit is odd. So inside a block of equal top digit, two consecutive low parts
are neighbours by induction, and the steps keep that; from one block to the next, the low part is at one corner of the
grid, and the steps of the two top digits move that corner to facing sides. -/

namespace Sys2Proof.Machine

open Sys2Proof.Safety

/-! ### Neighbours -/

/-- The coordinates of two indices differ by 1 along exactly one axis. -/
def Adjacent (n p : Nat) (u w : Word) : Prop :=
  ∃ a < n, distanceOne (decodeAxis u n p a) (decodeAxis w n p a) = true ∧
    ∀ b < n, b ≠ a → decodeAxis u n p b = decodeAxis w n p b

theorem distanceOne_iff {x y : Word} :
    distanceOne x y = true ↔ x.toNat = y.toNat + 1 ∨ y.toNat = x.toNat + 1 := by
  simp [distanceOne]

theorem Adjacent.symm {n p : Nat} {u w : Word} (h : Adjacent n p u w) : Adjacent n p w u := by
  obtain ⟨a, ha, hdist, hrest⟩ := h
  exact ⟨a, ha, distanceOne_iff.mpr (distanceOne_iff.mp hdist).symm, fun b hb hba => (hrest b hb hba).symm⟩

/-- Two words have the same bits in the levels below `p`. -/
def AgreeBelow (n p : Nat) (u w : Word) : Prop := ∀ L < p, ∀ a < n, u.getLsbD (pos n L a) = w.getLsbD (pos n L a)

theorem Adjacent.congr {n p : Nat} (hp : p ≤ 32) {u u' w w' : Word} (h : Adjacent n p u w) (hu : AgreeBelow n p u u')
    (hw : AgreeBelow n p w w') : Adjacent n p u' w' := by
  have hu' {a : Nat} (ha : a < n) := decodeAxis_congr (a := a) hp fun L hL => hu L hL a ha
  have hw' {a : Nat} (ha : a < n) := decodeAxis_congr (a := a) hp fun L hL => hw L hL a ha
  obtain ⟨a, ha, hdist, hrest⟩ := h
  refine ⟨a, ha, by rwa [← hu' ha, ← hw' ha], fun b hb hba => ?_⟩
  rw [← hu' hb, ← hw' hb]
  exact hrest b hb hba

/-! ### One more level -/

theorem bit_toNat {k : Nat} (hk : k < 32) : (bit k).toNat = 2 ^ k := BitVec.toNat_twoPow_of_lt hk

theorem mask_toNat {k : Nat} (hk : k ≤ 32) : (mask k).toNat = 2 ^ k - 1 := by
  have hpow : 2 ^ k ≤ 2 ^ 32 := Nat.pow_le_pow_right two_pos hk
  rw [mask, BitVec.toNat_ofNat, Nat.mod_eq_of_lt (by omega)]

/-- One more level adds its bit, with the weight of the level (42_codec.md R160). -/
theorem decodeAxis_succ_toNat {n p a : Nat} (hp : p < 32) (u : Word) :
    (decodeAxis u n (p + 1) a).toNat = 2 ^ p * (u.getLsbD (pos n p a)).toNat + (decodeAxis u n p a).toNat := by
  have hlt := decodeAxis_toNat_lt hp.le u n a
  rw [decodeAxis_succ, orBit]
  cases u.getLsbD (pos n p a) with
  | false => simp
  | true => rw [if_pos rfl, BitVec.toNat_or, bit_toNat hp, Nat.or_comm, Bool.toNat_true,
      Nat.two_pow_add_eq_or_of_lt hlt, Nat.mul_one]

/-- Neighbours stay neighbours under equal bits of one more level. -/
theorem Adjacent.succ {n p : Nat} (hp : p < 32) {u w : Word} (h : Adjacent n p u w)
    (htop : ∀ a < n, u.getLsbD (pos n p a) = w.getLsbD (pos n p a)) : Adjacent n (p + 1) u w := by
  obtain ⟨a, ha, hdist, hrest⟩ := h
  refine ⟨a, ha, ?_, fun b hb hba => ?_⟩
  · rw [distanceOne_iff] at hdist ⊢
    rw [decodeAxis_succ_toNat hp, decodeAxis_succ_toNat hp, htop a ha]
    omega
  · rw [decodeAxis_succ, decodeAxis_succ, hrest b hb hba, htop b hb]

/-- Opposite sides of the grid face each other: where one axis has its low levels at the end that its top bit points
away from, and the two words have different top bits there, the words are neighbours. -/
theorem adjacent_of_facing {n p b : Nat} (hp : p < 32) {u w : Word} {x y c d : Nat → Bool} (hb : b < n)
    (hu : ∀ a < n, decodeAxis u n p a = if c a then mask p else 0#32)
    (hw : ∀ a < n, decodeAxis w n p a = if d a then mask p else 0#32)
    (hx : ∀ a < n, u.getLsbD (pos n p a) = x a) (hy : ∀ a < n, w.getLsbD (pos n p a) = y a)
    (hxy : y b = !x b) (hc : c b = !x b) (hd : d b = x b) (hrest : ∀ a < n, a ≠ b → x a = y a ∧ c a = d a) :
    Adjacent n (p + 1) u w := by
  have hmask := mask_toNat hp.le
  have hpow := Nat.two_pow_pos p
  refine ⟨b, hb, ?_, fun a ha hab => ?_⟩
  · rw [distanceOne_iff, decodeAxis_succ_toNat hp, decodeAxis_succ_toNat hp, hu b hb, hw b hb, hx b hb, hy b hb,
      hxy, hc, hd]
    cases x b <;> simp [hmask] <;> omega
  · obtain ⟨hxa, hca⟩ := hrest a ha hab
    rw [decodeAxis_succ, decodeAxis_succ, hu a ha, hw a ha, hx a ha, hy a ha, hxa, hca]

/-! ### The steps of one level -/

/-- A 1 bit reflects the grid along axis 0. -/
theorem decodeAxis_skillingStep_one {n p r a : Nat} (ha : a < n) (hr : r < 32) (hrp : r / n = p) (hp : p ≤ 32)
    {u : Word} (hbit : u.getLsbD r = true) : decodeAxis (skillingStep n u r) n p a =
      if a = 0 then decodeAxis u n p a ^^^ mask p else decodeAxis u n p a := by
  refine BitVec.eq_of_getLsbD_eq fun L hL32 => ?_
  by_cases hL : L < p
  · rw [decodeAxis_getLsbD hp, skillingStep_getLsbD_pos_one ha hr (hrp ▸ hL) hbit]
    split_ifs with ha0
    · rw [BitVec.getLsbD_xor, mask_getLsbD, decodeAxis_getLsbD hp]
      simp [hL, hL32, ha0]
    · rw [decodeAxis_getLsbD hp]
      simp [ha0]
  · rw [decodeAxis_getLsbD hp]
    split_ifs
    · rw [BitVec.getLsbD_xor, mask_getLsbD, decodeAxis_getLsbD hp]
      simp [hL]
    · rw [decodeAxis_getLsbD hp]
      simp [hL]

/-- A 0 bit exchanges axis 0 and the axis of the step. -/
theorem decodeAxis_skillingStep_zero {n p r a : Nat} (ha : a < n) (hr : r < 32) (hrp : r / n = p) (hp : p ≤ 32)
    {u : Word} (hbit : u.getLsbD r = false) :
    decodeAxis (skillingStep n u r) n p a = decodeAxis u n p (Equiv.swap 0 (axis n r) a) := by
  refine BitVec.eq_of_getLsbD_eq fun L _ => ?_
  rw [decodeAxis_getLsbD hp, decodeAxis_getLsbD hp]
  by_cases hL : L < p
  · rw [skillingStep_getLsbD_pos_zero ha hr (hrp ▸ hL) hbit]
  · rw [decide_eq_false hL, Bool.false_and, Bool.false_and]

theorem xor_mask_toNat {p : Nat} (hp : p ≤ 32) {x : Word} (hx : x.toNat < 2 ^ p) :
    (x ^^^ mask p).toNat = 2 ^ p - (x.toNat + 1) := by
  refine Nat.eq_of_testBit_eq fun k => ?_
  rw [BitVec.testBit_toNat, Nat.testBit_two_pow_sub_succ hx, BitVec.getLsbD_xor, mask_getLsbD, BitVec.testBit_toNat]
  by_cases hk : k < p
  · simp [hk, show k < 32 by omega]
  · simp [hk, toNat_lt_two_pow_iff.mp hx k (not_lt.mp hk)]

/-- A step of level `p` is an isometry of the grid below it (41_skilling.md R131). -/
theorem Adjacent.skillingStep {n p r : Nat} (hr : r < 32) (hrp : r / n = p) (hp : p ≤ 32) {u w : Word}
    (h : Adjacent n p u w) (hbit : u.getLsbD r = w.getLsbD r) :
    Adjacent n p (skillingStep n u r) (skillingStep n w r) := by
  obtain ⟨a, ha, hdist, hrest⟩ := h
  cases hu : u.getLsbD r with
  | true =>
    have hone (v : Word) (hv : v.getLsbD r = true) {b : Nat} (hb : b < n) :=
      decodeAxis_skillingStep_one hb hr hrp hp hv
    have hw := hbit.symm.trans hu
    refine ⟨a, ha, ?_, fun b hb hba => ?_⟩
    · rw [hone u hu ha, hone w hw ha]
      split_ifs
      · rw [distanceOne_iff] at hdist ⊢
        have hxu := decodeAxis_toNat_lt hp u n a
        have hxw := decodeAxis_toNat_lt hp w n a
        rw [xor_mask_toNat hp hxu, xor_mask_toNat hp hxw]
        omega
      · exact hdist
    · rw [hone u hu hb, hone w hw hb, hrest b hb hba]
  | false =>
    have hzero (v : Word) (hv : v.getLsbD r = false) {b : Nat} (hb : b < n) :=
      decodeAxis_skillingStep_zero hb hr hrp hp hv
    have hw := hbit.symm.trans hu
    refine ⟨Equiv.swap 0 (axis n r) a, swap_axis_lt ha r, ?_, fun b hb hba => ?_⟩
    · rw [hzero u hu (swap_axis_lt ha r), hzero w hw (swap_axis_lt ha r), Equiv.swap_apply_self]
      exact hdist
    · rw [hzero u hu hb, hzero w hw hb]
      exact hrest _ (swap_axis_lt hb r) fun heq => hba (by rw [← heq, Equiv.swap_apply_self])

/-- The steps of level `p` keep neighbours of equal top level. -/
theorem Adjacent.foldl_skillingStep {n p : Nat} (hn : 0 < n) (hp : p ≤ 32) {rs : List Nat}
    (hrs : ∀ r ∈ rs, r < 32 ∧ r / n = p) {u w : Word} (h : Adjacent n p u w)
    (htop : ∀ r, r / n = p → u.getLsbD r = w.getLsbD r) :
    Adjacent n p (rs.foldl (Machine.skillingStep n) u) (rs.foldl (Machine.skillingStep n) w) := by
  induction rs generalizing u w with
  | nil => exact h
  | cons r rs ih =>
    obtain ⟨⟨hr, hrp⟩, hrs⟩ := List.forall_mem_cons.mp hrs
    refine ih hrs (h.skillingStep hr hrp hp (htop r hrp)) fun j hj => ?_
    have hle : r / n ≤ j / n := (hrp.trans hj.symm).le
    rw [skillingStep_getLsbD_of_div_le hn hr hle, skillingStep_getLsbD_of_div_le hn hr hle, htop j hj]

/-! ### Corners -/

/-- The low `p` levels of the word are a corner of the grid: along each axis all 0 or all 1, as `c` says. -/
def IsCorner (n p : Nat) (c : Nat → Bool) (u : Word) : Prop := ∀ L < p, ∀ a < n, u.getLsbD (pos n L a) = c a

theorem IsCorner.congr {n p : Nat} {c : Nat → Bool} {u w : Word} (h : IsCorner n p c u) (huw : AgreeBelow n p u w) :
    IsCorner n p c w :=
  fun L hL a ha => (huw L hL a ha).symm.trans (h L hL a ha)

theorem IsCorner.decodeAxis_eq {n p a : Nat} (hp : p ≤ 32) {c : Nat → Bool} {u : Word} (h : IsCorner n p c u)
    (ha : a < n) : decodeAxis u n p a = if c a then mask p else 0#32 := by
  refine BitVec.eq_of_getLsbD_eq fun L hL32 => ?_
  rw [decodeAxis_getLsbD hp]
  by_cases hL : L < p
  · rw [h L hL a ha]
    cases c a <;> simp [hL, hL32]
  · cases c a <;> simp [hL]

/-- What a step with control bit `b` and axis `d` does to a corner (41_skilling.md R131). -/
def cornerStep (b : Bool) (d : Nat) (c : Nat → Bool) : Nat → Bool :=
  if b then fun a => c a ^^ decide (a = 0) else fun a => c (Equiv.swap 0 d a)

theorem IsCorner.skillingStep {n p r : Nat} (hr : r < 32) (hrp : r / n = p) {c : Nat → Bool} {u : Word}
    (h : IsCorner n p c u) : IsCorner n p (cornerStep (u.getLsbD r) (axis n r) c) (skillingStep n u r) := by
  intro L hL a ha
  cases hbit : u.getLsbD r with
  | true =>
    rw [skillingStep_getLsbD_pos_one ha hr (hrp ▸ hL) hbit, h L hL a ha]
    rfl
  | false =>
    rw [skillingStep_getLsbD_pos_zero ha hr (hrp ▸ hL) hbit, h L hL _ (swap_axis_lt ha r)]
    rfl

/-- What the n steps of a level with top bits `x` do to a corner below it; `x` is by bit weight. -/
def cornerTurn (n : Nat) (x c : Nat → Bool) : Nat → Bool :=
  (List.range n).foldl (fun c j => cornerStep (x j) (axis n j) c) c

/-- The steps of level `p` turn a corner as `cornerTurn` says. -/
theorem IsCorner.foldl_skillingStep {n p : Nat} (hn : 0 < n) {js : List Nat}
    (hjs : ∀ j ∈ js, n * p + j < 32 ∧ j < n) {x c : Nat → Bool} {u : Word} (h : IsCorner n p c u)
    (hx : ∀ j < n, u.getLsbD (n * p + j) = x j) :
    IsCorner n p (js.foldl (fun c j => cornerStep (x j) (axis n j) c) c)
      ((js.map (n * p + ·)).foldl (Machine.skillingStep n) u) := by
  induction js generalizing c u with
  | nil => exact h
  | cons j js ih =>
    obtain ⟨⟨hr, hj⟩, hjs⟩ := List.forall_mem_cons.mp hjs
    have hlevel {i : Nat} (hi : i < n) : (n * p + i) / n = p := by
      rw [Nat.mul_add_div hn, Nat.div_eq_of_lt hi, Nat.add_zero]
    have haxis : axis n (n * p + j) = axis n j := by rw [axis, axis, Nat.mul_add_mod]
    have hstep := h.skillingStep hr (hlevel hj)
    rw [hx j hj, haxis] at hstep
    refine ih hjs hstep fun i hi => ?_
    rw [skillingStep_getLsbD_of_div_le hn hr ((hlevel hj).trans (hlevel hi).symm).le, hx i hi]

/-! ### The transform, level by level -/

/-- Steps of level 0 do nothing. -/
theorem skillingStep_of_lt {n r : Nat} (h : r < n) (u : Word) : skillingStep n u r = u := by
  rw [skillingStep, Nat.div_eq_of_lt h, invertLane_zero, swapLanes_zero, ite_self]

/-- The transform of one more level takes that level's steps last (41_skilling.md R132). -/
theorem skilling_succ (v : Word) (n p : Nat) :
    skilling v n (p + 1) = ((List.range n).map (n * p + ·)).foldl (skillingStep n) (skilling v n p) := by
  rw [← List.range'_eq_map_range]
  cases p with
  | zero =>
    rw [skilling_of_le_one le_rfl, skilling_of_le_one zero_le_one, Nat.mul_zero]
    refine (List.foldlRecOn (motive := (· = v)) _ _ rfl fun u hu r hr => ?_).symm
    rw [hu, skillingStep_of_lt (by rw [List.mem_range'_1] at hr; omega)]
  | succ p =>
    have hlen : n * (p + 1 + 1) - n = (n * (p + 1) - n) + n := by
      rw [Nat.mul_succ n (p + 1), Nat.mul_succ n p]
      omega
    have hstart : n + (n * (p + 1) - n) = n * (p + 1) := by
      rw [Nat.mul_succ n p]
      omega
    rw [skilling, skilling, hlen, ← List.range'_append_1, List.foldl_append, hstart]

/-- A step whose control bit is below level `p` reads and writes nothing from there up. -/
theorem AgreeBelow.skillingStep {n p r : Nat} (hn : 0 < n) (hr : r < n * p) (hp : n * p ≤ 32) {u w : Word}
    (h : AgreeBelow n p u w) : AgreeBelow n p (skillingStep n u r) (skillingStep n w r) := by
  have hr32 : r < 32 := hr.trans_le hp
  have hrp : r / n < p := (Nat.div_lt_iff_lt_mul hn).mpr (hr.trans_eq (Nat.mul_comm n p))
  have hbit : u.getLsbD r = w.getLsbD r := by
    have hpos := h (r / n) hrp (axis n r) (axis_lt hn r)
    rwa [pos_axis hn] at hpos
  intro L hL a ha
  by_cases hlow : L < r / n
  · cases hu : u.getLsbD r with
    | true =>
      rw [skillingStep_getLsbD_pos_one ha hr32 hlow hu, skillingStep_getLsbD_pos_one ha hr32 hlow (hbit.symm.trans hu),
        h L hL a ha]
    | false =>
      rw [skillingStep_getLsbD_pos_zero ha hr32 hlow hu,
        skillingStep_getLsbD_pos_zero ha hr32 hlow (hbit.symm.trans hu), h L hL _ (swap_axis_lt ha r)]
  · rw [skillingStep_getLsbD_pos_high ha hr32 (not_lt.mp hlow), skillingStep_getLsbD_pos_high ha hr32 (not_lt.mp hlow),
      h L hL a ha]

/-- The transform of a pair depends, below its levels, on the input's bits there alone. -/
theorem AgreeBelow.skilling {n p : Nat} (hv : ValidPair n p) {u w : Word} (h : AgreeBelow n p u w) :
    AgreeBelow n p (skilling u n p) (skilling w n p) :=
  List.foldl_rel h fun _ hr _ _ hcc =>
    hcc.skillingStep (validPair_dimension_pos hv) (mem_skillingSteps.mp hr).2 hv.2

/-! ### The code, level by level -/

/-- Bit `j` of the code of `k`, on natural numbers (40_gray.md R100). -/
def grayBit (k j : Nat) : Bool := k.testBit j ^^ k.testBit (j + 1)

theorem gray_ofNat_getLsbD {k : Nat} (hk : k < 2 ^ 32) (j : Nat) :
    (gray (BitVec.ofNat 32 k)).getLsbD j = grayBit k j := by
  rw [gray_getLsbD, ← BitVec.testBit_toNat, ← BitVec.testBit_toNat, BitVec.toNat_ofNat, Nat.mod_eq_of_lt hk, grayBit]

/-- The part of `k` below bit `N`, counted from the other end where the part above is odd. -/
def foldedIndex (N k : Nat) : Nat := if (k / 2 ^ N) % 2 = 0 then k % 2 ^ N else 2 ^ N - (k % 2 ^ N + 1)

theorem foldedIndex_lt (N k : Nat) : foldedIndex N k < 2 ^ N := by
  have hmod := Nat.mod_lt k (Nat.two_pow_pos N)
  unfold foldedIndex
  split_ifs <;> omega

theorem foldedIndex_testBit (N k j : Nat) :
    (foldedIndex N k).testBit j = (decide (j < N) && (k.testBit j ^^ k.testBit N)) := by
  have hN : k.testBit N = decide ((k / 2 ^ N) % 2 = 1) := by
    rw [Nat.testBit_eq_decide_div_mod_eq]
  rw [hN, foldedIndex]
  obtain h | h := Nat.mod_two_eq_zero_or_one (k / 2 ^ N)
  · rw [if_pos h, Nat.testBit_mod_two_pow, h]
    simp
  · rw [if_neg (by omega), Nat.testBit_two_pow_sub_succ (Nat.mod_lt _ (Nat.two_pow_pos N)), Nat.testBit_mod_two_pow, h]
    by_cases hj : j < N <;> simp [hj]

/-- Below bit `N`, the code of `k` is the code of its low part, read backwards where the part above is odd. -/
theorem grayBit_foldedIndex {N j : Nat} (hj : j < N) (k : Nat) : grayBit (foldedIndex N k) j = grayBit k j := by
  rw [grayBit, grayBit, foldedIndex_testBit, foldedIndex_testBit, decide_eq_true hj, Bool.true_and]
  by_cases hj' : j + 1 < N
  · rw [decide_eq_true hj', Bool.true_and]
    rw [Bool.xor_comm (k.testBit (j + 1)), Bool.xor_assoc, ← Bool.xor_assoc (k.testBit N), Bool.xor_self,
      Bool.false_xor]
  · rw [decide_eq_false hj', Bool.false_and, Bool.xor_false, show j + 1 = N by omega]

/-- From bit `N` on, the code of `k` is the code of the part above. -/
theorem grayBit_add (N k j : Nat) : grayBit k (N + j) = grayBit (k / 2 ^ N) j := by
  rw [grayBit, grayBit, Nat.testBit_div_two_pow, Nat.testBit_div_two_pow, Nat.add_comm N j, Nat.add_right_comm]

theorem foldedIndex_block {N m : Nat} (d : Nat) (hm : m < 2 ^ N) :
    foldedIndex N (2 ^ N * d + m) = if d % 2 = 0 then m else 2 ^ N - (m + 1) := by
  rw [foldedIndex, Nat.mul_add_div (Nat.two_pow_pos N), Nat.div_eq_of_lt hm, Nat.add_zero, Nat.mul_add_mod,
    Nat.mod_eq_of_lt hm]

/-- A step of the index either stays in a block of 2^N, or goes from the last of one block to the first of the next. -/
theorem succ_block_cases (N k : Nat) :
    ((k + 1) / 2 ^ N = k / 2 ^ N ∧
      (foldedIndex N (k + 1) = foldedIndex N k + 1 ∨ foldedIndex N k = foldedIndex N (k + 1) + 1)) ∨
    ((k + 1) / 2 ^ N = k / 2 ^ N + 1 ∧ foldedIndex N (k + 1) = foldedIndex N k ∧
      foldedIndex N k = if (k / 2 ^ N) % 2 = 0 then 2 ^ N - 1 else 0) := by
  have hpos := Nat.two_pow_pos N
  obtain ⟨d, m, hm, rfl⟩ : ∃ d m, m < 2 ^ N ∧ k = 2 ^ N * d + m :=
    ⟨k / 2 ^ N, k % 2 ^ N, Nat.mod_lt k hpos, (Nat.div_add_mod k _).symm⟩
  have hdiv : (2 ^ N * d + m) / 2 ^ N = d := by rw [Nat.mul_add_div hpos, Nat.div_eq_of_lt hm, Nat.add_zero]
  rw [hdiv, foldedIndex_block d hm]
  obtain hin | hlast := Nat.lt_or_eq_of_le (Nat.succ_le_of_lt hm)
  · rw [Nat.add_assoc, foldedIndex_block d hin, Nat.mul_add_div hpos, Nat.div_eq_of_lt hin, Nat.add_zero]
    refine .inl ⟨rfl, ?_⟩
    split_ifs <;> omega
  · have hnext : 2 ^ N * d + m + 1 = 2 ^ N * (d + 1) + 0 := by rw [Nat.mul_succ]; omega
    rw [hnext, foldedIndex_block (d + 1) hpos, Nat.mul_add_div hpos, Nat.zero_div, Nat.add_zero]
    refine .inr ⟨rfl, ?_, ?_⟩ <;> split_ifs <;> omega

/-! ### The corners of a block -/

/-- The walk of a block begins at the origin. -/
theorem isCorner_walkIndex_zero {n p : Nat} (h : ValidPair n p) :
    IsCorner n p (fun _ => false) (walkIndex (BitVec.ofNat 32 0) n p) := by
  have hzero : walkIndex (BitVec.ofNat 32 0) n p = 0#32 := skilling_zero h
  intro L _ a _
  rw [hzero, BitVec.getLsbD_zero]

/-- Steps below a lone 1 bit leave it alone. -/
theorem foldl_skillingStep_bit {n k : Nat} (hn : 0 < n) (hk : k < 32) {rs : List Nat} (hrs : ∀ r ∈ rs, r < k) :
    rs.foldl (skillingStep n) (bit k) = bit k :=
  List.foldlRecOn (motive := (· = bit k)) rs _ rfl fun u hu r hr => by
    rw [hu, skillingStep_bit_of_lt hn (hrs r hr) hk]

/-- With the top bit alone set, only its own step acts: it sets the axis-0 lane (`skilling_topBit`, for every pair). -/
theorem skilling_bit_top {n p : Nat} (h : ValidPair n (p + 1)) :
    skilling (bit (pos n p 0)) n (p + 1) = skillingStep n (bit (pos n p 0)) (pos n p 0) := by
  have hn := validPair_dimension_pos h
  have hk : pos n p 0 < 32 := (pos_lt hn (Nat.lt_succ_self p)).trans_le h.2
  obtain ⟨m, rfl⟩ := Nat.exists_eq_add_one.mpr hn
  have htop : (m + 1) * p + m = pos (m + 1) p 0 := by rw [pos, Nat.mul_comm]; rfl
  have hlow : skilling (bit (pos (m + 1) p 0)) (m + 1) p = bit (pos (m + 1) p 0) :=
    foldl_skillingStep_bit hn hk fun r hr => by
      have hr' := (mem_skillingSteps.mp hr).2
      omega
  have hrest : ∀ r ∈ (List.range m).map ((m + 1) * p + ·), r < pos (m + 1) p 0 :=
    List.forall_mem_map.mpr fun j hj => by
      have hj' := List.mem_range.mp hj
      omega
  rw [skilling_succ, hlow, List.range_succ, List.map_append, List.foldl_append, foldl_skillingStep_bit hn hk hrest,
    List.map_singleton, List.foldl_cons, List.foldl_nil, htop]

/-- The walk of a block ends at the far end of axis 0. -/
theorem isCorner_walkIndex_last {n p : Nat} (h : ValidPair n p) :
    IsCorner n p (fun a => decide (a = 0)) (walkIndex (BitVec.ofNat 32 (2 ^ (n * p) - 1)) n p) := by
  cases p with
  | zero => exact fun L hL => absurd hL (Nat.not_lt_zero L)
  | succ p =>
    have hn := validPair_dimension_pos h
    have hk : pos n p 0 < 32 := (pos_lt hn (Nat.lt_succ_self p)).trans_le h.2
    have hN : n * (p + 1) = pos n p 0 + 1 := by rw [pos, Nat.mul_succ, Nat.mul_comm]; omega
    have hcode : gray (mask (n * (p + 1))) = bit (pos n p 0) := by rw [hN]; exact gray_mask_succ hk
    have hindex : walkIndex (BitVec.ofNat 32 (2 ^ (n * (p + 1)) - 1)) n (p + 1) =
        skillingStep n (bit (pos n p 0)) (pos n p 0) :=
      (congrArg (skilling · n (p + 1)) hcode).trans (skilling_bit_top h)
    have hbit (L a : Nat) (ha : a < n) : (bit (pos n p 0)).getLsbD (pos n L a) = decide (L = p ∧ a = 0) := by
      rw [bit_getLsbD, ← Bool.decide_and, decide_eq_decide, ← pos_eq_pos_iff ha hn]
      exact ⟨And.right, fun heq => ⟨heq ▸ hk, heq⟩⟩
    intro L hL a ha
    rw [hindex]
    obtain hlow | rfl := Nat.lt_succ_iff_lt_or_eq.mp hL
    · have hself : (bit (pos n p 0)).getLsbD (pos n p 0) = true := by rw [hbit p 0 hn, decide_eq_true ⟨rfl, rfl⟩]
      rw [skillingStep_getLsbD_pos_one ha hk (by rwa [pos_div hn]) hself, hbit L a ha]
      simp [hlow.ne]
    · rw [skillingStep_getLsbD_pos_high ha hk (pos_div hn).le, hbit L a ha]
      simp

/-- From one top digit to the next: the corner where a block ends is turned by both digits to facing sides of the
axis in which they differ. `d` is the digit, and the corner is `isCorner_walkIndex_last` or the origin by its parity. -/
def TurnsFace (n d : Nat) : Prop :=
  ∃ b < n, grayBit (d + 1) (n - 1 - b) = !grayBit d (n - 1 - b) ∧
    cornerTurn n (grayBit d) (fun a => decide (a = 0 ∧ d % 2 = 0)) b = !grayBit d (n - 1 - b) ∧
    cornerTurn n (grayBit (d + 1)) (fun a => decide (a = 0 ∧ d % 2 = 0)) b = grayBit d (n - 1 - b) ∧
    ∀ a < n, a ≠ b → grayBit d (n - 1 - a) = grayBit (d + 1) (n - 1 - a) ∧
      cornerTurn n (grayBit d) (fun a => decide (a = 0 ∧ d % 2 = 0)) a =
        cornerTurn n (grayBit (d + 1)) (fun a => decide (a = 0 ∧ d % 2 = 0)) a

theorem turnsFace_of_lt {n d : Nat} (hn : n = 2 ∨ n = 3) (hd : d + 1 < 2 ^ n) : TurnsFace n d := by
  have htwo : ∀ d < 3, TurnsFace 2 d := by unfold TurnsFace; decide
  have hthree : ∀ d < 7, TurnsFace 3 d := by unfold TurnsFace; decide
  rcases hn with rfl | rfl
  exacts [htwo d (Nat.lt_of_succ_lt_succ hd), hthree d (Nat.lt_of_succ_lt_succ hd)]

/-! ### The induction -/

theorem validPair_of_succ {n p : Nat} (h : ValidPair n (p + 1)) : ValidPair n p :=
  ⟨h.1, (Nat.mul_le_mul_left n p.le_succ).trans h.2⟩

/-- Below the top level, the transform of step `k`'s code is the index of the folded step. -/
theorem agreeBelow_foldedIndex {n p k : Nat} (h : ValidPair n (p + 1)) (hk : k < 2 ^ (n * (p + 1))) :
    AgreeBelow n p (walkIndex (BitVec.ofNat 32 (foldedIndex (n * p) k)) n p)
      (skilling (gray (BitVec.ofNat 32 k)) n p) := by
  have hv := validPair_of_succ h
  have hfold := walk_index_lt hv (foldedIndex_lt (n * p) k)
  refine AgreeBelow.skilling hv fun L hL a ha => ?_
  rw [gray_ofNat_getLsbD hfold, gray_ofNat_getLsbD (walk_index_lt h hk), grayBit_foldedIndex (pos_lt ha hL)]

/-- The bits of the top level are the code of the top digit, before its steps. -/
theorem skilling_gray_getLsbD_top {n p k : Nat} (h : ValidPair n (p + 1)) (hk : k < 2 ^ (n * (p + 1))) (j : Nat) :
    (skilling (gray (BitVec.ofNat 32 k)) n p).getLsbD (n * p + j) = grayBit (k / 2 ^ (n * p)) j := by
  rw [skilling_getLsbD_high (validPair_of_succ h) ((Nat.sub_le _ _).trans (Nat.le_add_right _ _)),
    gray_ofNat_getLsbD (walk_index_lt h hk), grayBit_add]

/-- The bits of the top level are the code of the top digit, after its steps. -/
theorem walkIndex_getLsbD_top {n p k a : Nat} (h : ValidPair n (p + 1)) (hk : k < 2 ^ (n * (p + 1))) :
    (walkIndex (BitVec.ofNat 32 k) n (p + 1)).getLsbD (pos n p a) = grayBit (k / 2 ^ (n * p)) (n - 1 - a) := by
  have hpos : pos n p a = n * p + (n - 1 - a) := by rw [pos, Nat.mul_comm]
  have htop : n * (p + 1) - n ≤ n * p + (n - 1 - a) := by rw [Nat.mul_succ]; omega
  rw [hpos, walkIndex, skilling_getLsbD_high h htop, gray_ofNat_getLsbD (walk_index_lt h hk), grayBit_add]

/-- The steps of the top level, and where their control bits lie. -/
theorem topLevel_steps {n p j : Nat} (h : ValidPair n (p + 1)) (hj : j < n) :
    n * p + j < 32 ∧ (n * p + j) / n = p := by
  have hlast : n * p + n ≤ 32 := h.2
  exact ⟨by omega, by rw [Nat.mul_add_div (Nat.zero_lt_of_lt hj), Nat.div_eq_of_lt hj, Nat.add_zero]⟩

/-- Steps of one block are neighbours if their folded steps are. -/
theorem adjacent_of_sameBlock {n p k k' : Nat} (h : ValidPair n (p + 1)) (hk : k < 2 ^ (n * (p + 1)))
    (hk' : k' < 2 ^ (n * (p + 1))) (hblock : k' / 2 ^ (n * p) = k / 2 ^ (n * p))
    (hadj : Adjacent n p (walkIndex (BitVec.ofNat 32 (foldedIndex (n * p) k)) n p)
      (walkIndex (BitVec.ofNat 32 (foldedIndex (n * p) k')) n p)) :
    Adjacent n (p + 1) (walkIndex (BitVec.ofNat 32 k) n (p + 1)) (walkIndex (BitVec.ofNat 32 k') n (p + 1)) := by
  have hn := validPair_dimension_pos h
  have hp : p < 32 := validPair_precision_le h
  have hbefore := hadj.congr hp.le (agreeBelow_foldedIndex h hk) (agreeBelow_foldedIndex h hk')
  have hsteps : ∀ r ∈ (List.range n).map (n * p + ·), r < 32 ∧ r / n = p :=
    List.forall_mem_map.mpr fun j hj => topLevel_steps h (List.mem_range.mp hj)
  have hafter := hbefore.foldl_skillingStep hn hp.le hsteps fun r hr => by
    have hr' : r = n * p + r % n := by rw [← hr, Nat.div_add_mod]
    rw [hr', skilling_gray_getLsbD_top h hk, skilling_gray_getLsbD_top h hk', hblock]
  rw [← skilling_succ, ← skilling_succ] at hafter
  refine hafter.succ hp fun a _ => ?_
  exact (walkIndex_getLsbD_top h hk).trans ((congrArg (grayBit · _) hblock.symm).trans
    (walkIndex_getLsbD_top h hk').symm)

/-- Where the folded step is at a corner, the steps of the top level turn that corner. -/
theorem isCorner_walkIndex_succ {n p k : Nat} (h : ValidPair n (p + 1)) (hk : k < 2 ^ (n * (p + 1))) {c : Nat → Bool}
    (hc : IsCorner n p c (walkIndex (BitVec.ofNat 32 (foldedIndex (n * p) k)) n p)) :
    IsCorner n p (cornerTurn n (grayBit (k / 2 ^ (n * p))) c) (walkIndex (BitVec.ofNat 32 k) n (p + 1)) := by
  have hturn := (hc.congr (agreeBelow_foldedIndex h hk)).foldl_skillingStep (validPair_dimension_pos h)
    (js := List.range n) (fun j hj => ⟨(topLevel_steps h (List.mem_range.mp hj)).1, List.mem_range.mp hj⟩)
    fun j _ => skilling_gray_getLsbD_top h hk j
  rw [← skilling_succ] at hturn
  exact hturn

/-- From the last step of a block to the first of the next. -/
theorem adjacent_of_nextBlock {n p k : Nat} (h : ValidPair n (p + 1)) (hk : k + 1 < 2 ^ (n * (p + 1)))
    (hblock : (k + 1) / 2 ^ (n * p) = k / 2 ^ (n * p) + 1)
    (hfold : foldedIndex (n * p) (k + 1) = foldedIndex (n * p) k)
    (hend : foldedIndex (n * p) k = if (k / 2 ^ (n * p)) % 2 = 0 then 2 ^ (n * p) - 1 else 0) :
    Adjacent n (p + 1) (walkIndex (BitVec.ofNat 32 k) n (p + 1)) (walkIndex (BitVec.ofNat 32 (k + 1)) n (p + 1)) := by
  have hv := validPair_of_succ h
  have hp : p < 32 := validPair_precision_le h
  have hk' := Nat.lt_of_succ_lt hk
  generalize hd : k / 2 ^ (n * p) = d at hblock hend
  have hcorner : IsCorner n p (fun a => decide (a = 0 ∧ d % 2 = 0))
      (walkIndex (BitVec.ofNat 32 (foldedIndex (n * p) k)) n p) := by
    rw [hend]
    split_ifs with heven
    · simpa only [heven, and_true] using isCorner_walkIndex_last hv
    · simpa only [heven, and_false, decide_false] using isCorner_walkIndex_zero hv
  have hturn := isCorner_walkIndex_succ h hk' hcorner
  have hturn' := isCorner_walkIndex_succ h hk (hfold ▸ hcorner)
  rw [hd] at hturn
  rw [hblock] at hturn'
  have hdigit : d + 1 < 2 ^ n := by
    rw [← hblock, Nat.div_lt_iff_lt_mul (Nat.two_pow_pos _), ← Nat.pow_add, Nat.add_comm n]
    exact hk
  obtain ⟨b, hb, hxy, hc, hc', hrest⟩ := turnsFace_of_lt h.1 hdigit
  exact adjacent_of_facing hp hb (fun a ha => hturn.decodeAxis_eq hp.le ha) (fun a ha => hturn'.decodeAxis_eq hp.le ha)
    (fun a _ => hd ▸ walkIndex_getLsbD_top h hk') (fun a _ => hblock ▸ walkIndex_getLsbD_top h hk) hxy hc hc' hrest

/-- Consecutive vertices are neighbours (43_walk.md R184, item 4). -/
theorem adjacent_walkIndex {n p k : Nat} (h : ValidPair n p) (hk : k + 1 < 2 ^ (n * p)) :
    Adjacent n p (walkIndex (BitVec.ofNat 32 k) n p) (walkIndex (BitVec.ofNat 32 (k + 1)) n p) := by
  induction p generalizing k with
  | zero =>
    rw [Nat.mul_zero, Nat.pow_zero] at hk
    omega
  | succ p ih =>
    have hv := validPair_of_succ h
    have hk' := Nat.lt_of_succ_lt hk
    obtain ⟨hblock, hstep⟩ | ⟨hblock, hfold, hend⟩ := succ_block_cases (n * p) k
    · refine adjacent_of_sameBlock h hk' hk hblock ?_
      obtain hup | hdown := hstep
      · rw [hup]
        exact ih hv (hup ▸ foldedIndex_lt _ _)
      · rw [hdown]
        exact (ih hv (hdown ▸ foldedIndex_lt _ _)).symm
    · exact adjacent_of_nextBlock h hk hblock hfold hend

end Sys2Proof.Machine
end

section
/-! Consecutive vertices of a walk (43_walk.md, section 2). -/

namespace Sys2Proof.Proofs

open Sys2Proof.Machine Sys2Proof.Safety

/-- Settles O59: the statement is `Adjacent` of the two steps' indices. -/
theorem walkIsAdjacent : Obligations.WalkIsAdjacent :=
  fun _ _ _ h hk => adjacent_walkIndex h hk

end Sys2Proof.Proofs
end
